-- ==== Sys2Proof/Word.lean ====
section
/-! DEFINITION. The data widths of the machine (00_scope.md R11): bytes and words. -/

namespace Sys2Proof

/-- A byte: a data register, a memory location, the data bus (00_scope.md R11, R17). -/
abbrev Byte := BitVec 8

/-- A word: a register pair, SP, PC, an address (00_scope.md R11, R17). -/
abbrev Word := BitVec 16

end Sys2Proof
end

