-- ==== Sys2Proof/Config.lean ====
section
/-! DEFINITION. What an implementation fixes and the values the spec leaves open: the constants of the memory
map's reset contents, the parameters with a default (00_scope.md R14) and the free values (opaque, no body). -/

namespace Sys2Proof.Config

/-- What a RAM byte reads that nothing has written: the default of `initialRam` (70_reset_and_hazards.md R503, D14).
DESIGN CHOICE of the spec, log entry 3. -/
def ramBlank : Byte := 0x00

/-- What a sound register reads that nothing has written: the default of `soundModel` (60_exceptions.md R466, D29). -/
def soundBlank : Byte := 0xFF

/-- What a byte of the cartridge image reads that the image does not list: 0x00, as the spec's test cartridge
(95_test_vectors.md section 0). DESIGN CHOICE, log entry 5. -/
def imageBlank : Byte := 0x00

/-- The shade of a frame-buffer entry nothing has been emitted at (60_exceptions.md R451: every entry is 0 at reset). -/
def frameBlank : Byte := 0x00

/-- FREE VALUE. The byte of the n-th draw of `dmaHighRead`: what a DMA reads from a source address 0xFE00 or above
(20_memory.md R131, OPEN). Log entry 6. -/
opaque dmaHighByte : Nat → Byte

/-- FREE VALUE. `cart.read` of a cartridge behind the interface: a byte that depends on the image, on every write the
cartridge has seen and on the address (20_memory.md R100, OPEN). Log entry 5. -/
opaque cartRead : List Host.Cell → List (Word × Byte) → Word → Byte

/-- FREE VALUE. The message, if any, with which `cart.read` reports a fatal condition (20_memory.md R168). Log entry 5. -/
opaque cartReadFatal : List Host.Cell → List (Word × Byte) → Word → Option String

/-- FREE VALUE. The message, if any, with which `cart.write` reports a fatal condition (20_memory.md R168). Log entry 5. -/
opaque cartWriteFatal : List Host.Cell → List (Word × Byte) → Word → Byte → Option String

/-- The cartridge metadata the loader reads (20_memory.md R100, 70_reset_and_hazards.md R507). -/
structure CartInfo where
  hasRam : Bool
  hasBattery : Bool
  romBanks : Nat
  ramBanks : Nat
  deriving DecidableEq, Repr

/-- FREE VALUE. The "fixed lookup table" of the loader: the metadata of a controller type code, a ROM size code and a
RAM size code, or none where a code is unknown (70_reset_and_hazards.md R507; the codes belong to `cart`). Log entry 5. -/
opaque cartInfo : Byte → Byte → Byte → Option CartInfo

end Sys2Proof.Config
end

