-- ==== Sys2Proof/Machine/State.lean ====
section
/-! DEFINITION. The machine's state as plain data: everything the spec gives the machine, and the state after reset. -/

namespace Sys2Proof.Machine

/-- Bytes by address: a list of (address, byte) pairs, addresses strictly rising, no byte equal to what an unlisted address
reads as (`Memory.wf` in Machine/Memory.lean). -/
abbrev Memory := List Host.Cell

/-- The unimplemented features a program can enable (60_exceptions.md R468). -/
inductive Feature where
  /-- "double-speed-switch completion": STOP with KEY1 bit 0 = 1 -/
  | doubleSpeed
  /-- "window rendering": a visible line enters LCD_TRANSFER with LCDC bit 5 = 1 -/
  | window
  /-- "tall-sprite addressing": a visible line begins OAM_SEARCH with LCDC bits 2 and 1 = 1 -/
  | tallSprites
  /-- "infrared port": a processor write to RP -/
  | infrared
  /-- "high-speed serial": a processor write to SC with bits 7 and 1 = 1 -/
  | highSpeedSerial
  deriving DecidableEq, Repr

/-- Faults: the run ends with a failure. -/
inductive Fault where
  /-- Raised by `step` when the cartridge has reported a fatal condition (60_exceptions.md R427, 20_memory.md R168). Safe: the spec
  gives the state no successor. -/
  | fatal (message : String)
  /-- Raised by `loadCartridge` on an image whose type or size codes are unknown (70_reset_and_hazards.md R507). Safe: "the
  system must not attempt to run". -/
  | unknownCartridge
  deriving DecidableEq, Repr

/-- Refusals: no meaning under the spec. -/
inductive Refusal where
  /-- Raised by an arm of `exec` that has no meaning yet; there is none. Safe. -/
  | notModelled (mnemonic : String)
  /-- Raised by `step` when a program has used an unimplemented feature (60_exceptions.md R468, 10_state.md R56). Safe: the spec gives
  the state no successor. -/
  | unmodelled (feature : Feature)
  /-- Raised by `step` if the fetched bytes were no instruction; every byte is one (30_encoding.md R181). Safe. -/
  | undecodable
  deriving DecidableEq, Repr

/-- The record of an undefined opcode (10_state.md R55). -/
structure Frozen where
  opcode : Byte
  addr : Word
  deriving DecidableEq, Repr

/-- The core's registers and control bits (10_state.md R40 to R55). -/
structure Cpu where
  a : Byte
  f : Byte
  b : Byte
  c : Byte
  d : Byte
  e : Byte
  h : Byte
  l : Byte
  sp : Word
  pc : Word
  ime : Bool
  eiDelay : BitVec 2
  halted : Bool
  haltBug : Bool
  stopped : Bool
  frozen : Option Frozen
  deriving DecidableEq, Repr

/-- The direction of a bus access, a write with its byte (10_state.md R58). -/
inductive BusDir where
  | read
  | write (v : Byte)
  deriving DecidableEq, Repr

/-- A scheduled memory operation: target machine cycle, address, direction (10_state.md R58; 20_memory.md R120). -/
structure BusOp where
  cycle : Nat
  addr : Word
  dir : BusDir
  deriving DecidableEq, Repr

/-- The core's position in time and its scheduling queue (10_state.md R57, R58). `latch` is the destination byte of the read
last serviced (20_memory.md R121); `instrAddr` is the address of the current opcode byte (45_system.md R386). -/
structure Sched where
  remaining : Nat
  mcycle : Nat
  queue : List BusOp
  latch : Byte
  instrAddr : Word
  deriving DecidableEq, Repr

/-- IF bits 4:0 and IE (10_state.md R59, R60). -/
structure Irq where
  flags : BitVec 5
  enable : Byte
  deriving DecidableEq, Repr

/-- The timer collaborator (60_exceptions.md R460); `gate` is the previous value of `TAC[2] and gatingBit`. -/
structure Timer where
  sys : BitVec 16
  tima : Byte
  tma : Byte
  tac : BitVec 3
  gate : Bool
  deriving DecidableEq, Repr

/-- What the host's scan of the serial stream found (60_exceptions.md R464). -/
inductive Verdict where
  | pass
  | fail
  deriving DecidableEq, Repr

/-- SB, SC bits 7, 1, 0, the dots at which started transfers complete, the output stream and its scan (20_memory.md R142;
60_exceptions.md R463, R464). -/
structure Serial where
  sb : Byte
  start : Bool
  fast : Bool
  clock : Bool
  due : List Nat
  out : List Byte
  failIdx : Nat
  passIdx : Nat
  verdict : Option Verdict
  deriving DecidableEq, Repr

/-- P1 bits 5:4 and the two nibbles {Down, Up, Left, Right} and {Start, Select, B, A}, 0 meaning pressed (20_memory.md R141). -/
structure Joypad where
  sel : BitVec 2
  dirs : BitVec 4
  acts : BitVec 4
  deriving DecidableEq, Repr

/-- The eight buttons (60_exceptions.md R465). -/
inductive Button where
  | right | left | up | down | a | b | select | start
  deriving DecidableEq, Repr

/-- A "boolean button-state-changed event" of the host, with the dot before which it is delivered (60_exceptions.md R465). -/
structure ButtonEvent where
  dot : Nat
  button : Button
  pressed : Bool
  deriving DecidableEq, Repr

/-- A sprite candidate: an OAM entry as it was examined, with its index (60_exceptions.md R448). -/
structure Sprite where
  index : Nat
  y : Byte
  x : Byte
  tile : Byte
  attrs : Byte
  deriving DecidableEq, Repr

/-- The background registers as the pipeline sampled them (60_exceptions.md R452). -/
structure BgSample where
  lcdc : Byte
  scx : Byte
  scy : Byte
  deriving DecidableEq, Repr

/-- The picture pipeline and its registers (20_memory.md R146 to R153; 60_exceptions.md R440 to R455). -/
structure Ppu where
  lcdc : Byte
  statSel : BitVec 4
  scy : Byte
  scx : Byte
  lyc : Byte
  bgp : Byte
  obp0 : Byte
  obp1 : Byte
  wy : Byte
  wx : Byte
  ly : Nat
  lineDot : Nat
  transfer : Nat
  candidates : List Sprite
  samples : List BgSample
  statLine : Bool
  frame : Memory
  deriving DecidableEq, Repr

/-- The OAM DMA engine and its register (20_memory.md R128 to R133, R151). -/
structure Dma where
  reg : Byte
  active : Bool
  src : Word
  index : Nat
  deriving DecidableEq, Repr

/-- Which cartridge is behind the interface: the spec's test cartridge (95_test_vectors.md section 0), or a controller of which
only the interface is given (20_memory.md R100). -/
inductive CartKind where
  | test
  | controlled
  deriving DecidableEq, Repr

/-- The cartridge collaborator: its image, its state as the list of every write it has seen, oldest first, and its metadata
(20_memory.md R100). -/
structure Cart where
  kind : CartKind
  image : Memory
  writes : List (Word × Byte)
  hasRam : Bool
  hasBattery : Bool
  romBanks : Nat
  ramBanks : Nat
  deriving DecidableEq, Repr

/-- What a frame call returns: the copy of the frame buffer and the frozen record (60_exceptions.md R457, R426). -/
structure FrameReport where
  pixels : Memory
  frozen : Option Frozen
  deriving DecidableEq, Repr

/-- The two values of the parameter `bgSampleDots` (60_exceptions.md R452). -/
inductive BgSampling where
  | perLine
  | perTile
  deriving DecidableEq, Repr

/-- A parameter of 00_scope.md R14 that is a behaviour: the spec's default, or another model of it, of which nothing is known but what the
spec asks of every model (a free value, Machine/Models.lean; log entry 24). -/
inductive Model where
  | standard
  | other (n : Nat)
  deriving DecidableEq, Repr

/-- The named parameters (00_scope.md R14) that a run is given and no step changes; `cart` stands in `State.cart`, the events of `joypadEvent`
in `State.inputs`, the values at reset in `Initial`. -/
structure Params where
  cpuPhase : Fin 4
  transferDots : Model
  bgSampling : BgSampling
  spritePixel : Model
  statIrq : Model
  timerModel : Model
  serialEvent : Model
  joypadEvent : Model
  soundModel : Model
  failPattern : List Byte
  passPattern : List Byte
  deriving DecidableEq, Repr

/-- The machine's state. -/
structure State where
  cpu : Cpu
  sched : Sched
  irq : Irq
  timer : Timer
  serial : Serial
  joypad : Joypad
  ppu : Ppu
  dma : Dma
  key1 : Bool
  svbk : BitVec 3
  mem : Memory
  sound : Memory
  cart : Cart
  inputs : List ButtonEvent
  dot : Nat
  report : Option FrameReport
  freeCount : Nat
  refused : Option Feature
  fatal : Option String
  params : Params
  deriving DecidableEq, Repr

/-- What a meaning or a step answers. -/
abbrev Result := Host.Outcome State Fault Refusal

/-- The parameters at their defaults (92_eei_decisions.md section 2; 60_exceptions.md R464). -/
def Params.default : Params :=
  { cpuPhase := 0
    transferDots := .standard
    bgSampling := .perLine
    spritePixel := .standard
    statIrq := .standard
    timerModel := .standard
    serialEvent := .standard
    joypadEvent := .standard
    soundModel := .standard
    failPattern := [0x42, 0x42, 0x42, 0x42, 0x42, 0x42]
    passPattern := [3, 5, 8, 13, 21, 34] }

/-- The spec's test cartridge with an image (95_test_vectors.md section 0): 32 KiB, no controller, no RAM. -/
def Cart.testCart (image : Memory) : Cart :=
  { kind := .test, image := image, writes := [], hasRam := false, hasBattery := false, romBanks := 2, ramBanks := 0 }

/-- The parameter `initialRegs`: any value for A to L and SP, and for F's bits 7:4, its bits 3:0 being 0; PC is fixed
(70_reset_and_hazards.md R500). -/
structure InitialRegs where
  a : Byte
  flags : BitVec 4
  b : Byte
  c : Byte
  d : Byte
  e : Byte
  h : Byte
  l : Byte
  sp : Word
  deriving DecidableEq, Repr

/-- The parameter `ppuInitial`: the pipeline's own state after reset, and the timer's previous gating value, which its rule gives with it
(70_reset_and_hazards.md R505). -/
structure PpuInitial where
  ly : Fin 154
  lineDot : Fin 456
  transfer : Nat
  candidates : List Sprite
  samples : List BgSample
  statLine : Bool
  frame : Memory
  gate : Bool
  deriving DecidableEq, Repr

/-- The parameters that give the values at reset: `initialRegs`, `initialRam` and `ppuInitial` (00_scope.md R14). `ram` lists the bytes of
`initialRam` that are not `Config.ramBlank`, in the canonical form. -/
structure Initial where
  regs : InitialRegs
  ram : Memory
  ppu : PpuInitial
  deriving DecidableEq, Repr

/-- `initialRegs` at its default (10_state.md R63; 70_reset_and_hazards.md R500). -/
def InitialRegs.default : InitialRegs :=
  { a := 0x01, flags := 0xB, b := 0x00, c := 0x13, d := 0x00, e := 0xD8, h := 0x01, l := 0x4D, sp := 0xFFFE }

/-- `ppuInitial` at its default (70_reset_and_hazards.md R505): line 0, dot 0, in OAM_SEARCH. Entry 0 of an all-zero OAM is examined and not
selected. `transfer` and `samples`: log entry 4. -/
def PpuInitial.default : PpuInitial :=
  { ly := 0, lineDot := 0, transfer := 172, candidates := [], samples := [], statLine := false, frame := [], gate := false }

/-- The defaults of the parameters that give the values at reset; `initialRam` is 0x00 everywhere (70_reset_and_hazards.md R503). -/
def Initial.default : Initial := { regs := InitialRegs.default, ram := [], ppu := PpuInitial.default }

/-- The core's registers after reset (10_state.md R63; 70_reset_and_hazards.md R500, R501, R509). -/
def InitialRegs.cpu (r : InitialRegs) : Cpu :=
  { a := r.a, f := BitVec.ofNat 8 (16 * r.flags.toNat), b := r.b, c := r.c, d := r.d, e := r.e, h := r.h, l := r.l
    sp := r.sp, pc := 0x0100, ime := false, eiDelay := 0
    halted := false, haltBug := false, stopped := false, frozen := none }

/-- The core's registers after reset with the default of `initialRegs`. -/
def Cpu.reset : Cpu := InitialRegs.default.cpu

/-- The pipeline after reset: its registers, and its own state as `ppuInitial` gives it (70_reset_and_hazards.md R504, R505). -/
def PpuInitial.ppu (p : PpuInitial) : Ppu :=
  { lcdc := 0x91, statSel := 0, scy := 0, scx := 0, lyc := 0, bgp := 0xFC, obp0 := 0xFF, obp1 := 0xFF, wy := 0, wx := 0
    ly := p.ly.val, lineDot := p.lineDot.val, transfer := p.transfer, candidates := p.candidates, samples := p.samples
    statLine := p.statLine, frame := p.frame }

/-- The pipeline after reset with the default of `ppuInitial`. -/
def Ppu.reset : Ppu := PpuInitial.default.ppu

/-- The reset procedure with a loaded cartridge and parameters (70_reset_and_hazards.md R501 to R506), but for the examination of OAM entry 0,
which `State.powerOn` adds. SC bit 1: log entry 12. -/
def State.resetWith (init : Initial) (params : Params) (cart : Cart) : State :=
  { cpu := init.regs.cpu
    sched := { remaining := 0, mcycle := 0, queue := [], latch := 0, instrAddr := 0 }
    irq := { flags := 1, enable := 0 }
    timer := { sys := 0xAB00, tima := 0, tma := 0, tac := 0, gate := init.ppu.gate }
    serial := { sb := 0, start := false, fast := true, clock := false, due := [], out := [], failIdx := 0, passIdx := 0
                verdict := none }
    joypad := { sel := 0, dirs := 0xF, acts := 0xF }
    ppu := init.ppu.ppu
    dma := { reg := 0xFF, active := false, src := 0, index := 0 }
    key1 := false
    svbk := 0
    mem := init.ram
    sound := []
    cart := cart
    inputs := []
    dot := 0
    report := none
    freeCount := 0
    refused := none
    fatal := none
    params := params }

/-- The machine right after reset, default parameters, the test cartridge with an all-zero image (log entry 5). -/
def State.reset : State := State.resetWith Initial.default Params.default (Cart.testCart [])

end Sys2Proof.Machine
end

