-- ==== Sys2Proof/Machine/Models.lean ====
section
/-! DEFINITION. The other models of the parameters that are behaviours (00_scope.md R14): free values, opaque, no body. Each is given the model's
number, the dot, and the registers it owns or may look at; what the spec asks of every model is said where the value is used. Log entry 24. -/

namespace Sys2Proof.Config

open Sys2Proof.Machine

/-- What makes the timer act: a dot's count, a write to DIV, a write to TAC (60_exceptions.md R460). -/
inductive TimerEvent where
  | count | divWrite | tacWrite
  deriving DecidableEq, Repr

/-- FREE VALUE. By how many dots another `transferDots` makes a line's transfer longer than 172; read modulo 205, for the range 172 to 376
(60_exceptions.md R441). -/
opaque transferExtra : Nat → Nat → Ppu → Nat

/-- FREE VALUE. Another `spritePixel` at a column: none, or the colour index less 1, whether the palette is OBP1, and whether it wins over a
non-zero background (60_exceptions.md R455). -/
opaque spritePixel : Nat → Nat → Ppu → Memory → Nat → Option (Fin 3 × Bool × Bool)

/-- FREE VALUE. Whether another `statIrq` requests line 1 in a dot with the display enabled (60_exceptions.md R447, R450). -/
opaque statRequest : Nat → Nat → Ppu → Bool

/-- FREE VALUE. The free-running counter of another `timerModel` after a dot (60_exceptions.md R460). -/
opaque timerSys : Nat → Nat → Timer → BitVec 16

/-- FREE VALUE. TIMA of another `timerModel` after a count, a DIV write or a TAC write (60_exceptions.md R460). -/
opaque timerTima : Nat → Nat → TimerEvent → Timer → Byte

/-- FREE VALUE. Whether another `timerModel` then requests line 2 (60_exceptions.md R460). -/
opaque timerRequest : Nat → Nat → TimerEvent → Timer → Bool

/-- FREE VALUE. The byte another `serialEvent` puts out to the host at a write of SC, if any (60_exceptions.md R463). -/
opaque serialSent : Nat → Nat → Serial → Option Byte

/-- FREE VALUE. The byte with which another `serialEvent` completes a transfer in a dot, if it does (60_exceptions.md R463). -/
opaque serialReceived : Nat → Nat → Serial → Option Byte

/-- FREE VALUE. Whether another `joypadEvent` requests line 4 at an event, from the nibbles before and after it (60_exceptions.md R465). -/
opaque joypadRequest : Nat → Nat → Joypad → Joypad → Bool

/-- FREE VALUE. `soundModel.read(addr)` of another `soundModel`, which has seen these writes (60_exceptions.md R466). -/
opaque soundRead : Nat → Nat → Memory → Nat → Byte

end Sys2Proof.Config
end

