-- ==== Sys2Proof/Machine/Bits.lean ====
section
/-! DEFINITION. Byte order, sign extension and bit helpers (00_scope.md R17, R18; 20_memory.md R98). -/

namespace Sys2Proof.Machine

/-- `{h, l}`: the word with high byte h and low byte l (00_scope.md R17; 10_state.md R41). -/
def pair (h l : Byte) : Word := BitVec.ofNat 16 (h.toNat * 256 + l.toNat)

/-- Bits 15:8 of a word. -/
def hi (w : Word) : Byte := BitVec.ofNat 8 (w.toNat / 256)

/-- Bits 7:0 of a word. -/
def lo (w : Word) : Byte := BitVec.ofNat 8 w.toNat

/-- `sext_16` (00_scope.md R18). -/
def sext (e : Byte) : Word := BitVec.ofNat 16 (if e.toNat < 128 then e.toNat else 0xFF00 + e.toNat)

/-- `v[i]` of a byte as a truth value (00_scope.md R17). -/
def bitOf (v : Byte) (i : Nat) : Bool := v.getLsbD i

/-- The byte with bit `i` equal to `x` and every other bit 0. -/
def bitAt (i : Nat) (x : Bool) : Byte := if x then BitVec.ofNat 8 (2 ^ i) else 0

end Sys2Proof.Machine
end

