-- ==== Sys2Proof/Machine/Memory.lean ====
section
/-! DEFINITION. Memory as a canonical list: reading and writing one byte, and its canonical form. -/

namespace Sys2Proof.Machine

/-- The byte at an address; an unlisted address reads as `blank`. -/
def Memory.get (blank : Byte) : Memory → Nat → Byte
  | [], _ => blank
  | (k, v) :: m, a => if k = a then v else Memory.get blank m a

/-- Write a byte, keeping the canonical form: writing `blank` removes the entry. -/
def Memory.set (blank : Byte) : Memory → Nat → Byte → Memory
  | [], a, v => if v = blank then [] else [(a, v)]
  | (k, w) :: m, a, v =>
    if a < k then (if v = blank then (k, w) :: m else (a, v) :: (k, w) :: m)
    else if a = k then (if v = blank then m else (a, v) :: m)
    else (k, w) :: Memory.set blank m a v

/-- The canonical form: addresses strictly rising, no entry equal to what an unlisted address reads as. -/
abbrev Memory.wf (blank : Byte) (m : Memory) : Prop :=
  m.Pairwise (fun x y : Host.Cell => x.1 < y.1) ∧ ∀ x ∈ m, x.2 ≠ blank

/-- Every memory of a state is in canonical form. -/
abbrev State.memoriesWf (s : State) : Prop :=
  Memory.wf Config.ramBlank s.mem ∧ Memory.wf Config.soundBlank s.sound ∧ Memory.wf Config.imageBlank s.cart.image ∧
    Memory.wf Config.frameBlank s.ppu.frame ∧ Memory.wf Config.frameBlank ((s.report.map (·.pixels)).getD [])

/-- A byte of RAM (video RAM, work RAM, OAM, HRAM) by its storage key (`ramKey` in Machine/Router.lean). -/
def State.ram (s : State) (k : Nat) : Byte := Memory.get Config.ramBlank s.mem k

/-- Store a byte of RAM. -/
def State.setRam (k : Nat) (v : Byte) (s : State) : State := { s with mem := Memory.set Config.ramBlank s.mem k v }

/-- A byte of the cartridge image. -/
def State.rom (s : State) (k : Nat) : Byte := Memory.get Config.imageBlank s.cart.image k

/-- The refusal mark (60_exceptions.md R468; 00_scope.md R22): the first mark of a run stands. -/
def State.markRefused (f : Feature) (s : State) : State :=
  if s.refused = none ∧ s.fatal = none then { s with refused := some f } else s

/-- The fatal mark (60_exceptions.md R427): the first mark of a run stands; no message leaves it. -/
def State.markFatal (m : Option String) (s : State) : State :=
  match m with
  | none => s
  | some t => if s.refused = none ∧ s.fatal = none then { s with fatal := some t } else s

end Sys2Proof.Machine
end

