-- ==== Sys2Proof/Machine/Timer.lean ====
section
/-! DEFINITION. Requesting an interrupt, and the timer collaborator, at its default model and at any other (60_exceptions.md R460;
20_memory.md R143). -/

namespace Sys2Proof.Machine

/-- The interrupt lines by their IF and IE bit (60_exceptions.md R411). -/
inductive Line where
  | vblank | stat | timer | serial | joypad
  deriving DecidableEq, Repr

/-- The bit of a line. -/
def Line.index : Line → Nat
  | .vblank => 0 | .stat => 1 | .timer => 2 | .serial => 3 | .joypad => 4

/-- A peripheral sets the request bit of its line: an OR (20_memory.md R91; 10_state.md R59). -/
def State.request (k : Line) (s : State) : State :=
  { s with irq := { s.irq with flags := s.irq.flags ||| BitVec.ofNat 5 (2 ^ k.index) } }

/-- The bit of `sys` that TAC bits 1:0 select (60_exceptions.md R460). -/
def gatingBit (tac : BitVec 3) : Nat :=
  match tac.toNat % 4 with
  | 0 => 9
  | 1 => 3
  | 2 => 5
  | _ => 7

/-- `TAC[2] and gatingBit`. -/
def Timer.gated (t : Timer) : Bool := t.tac.getLsbD 2 && t.sys.getLsbD (gatingBit t.tac)

/-- TIMA's increment: "An increment from 0xFF sets TIMA <- TMA and IF[2] <- 1 in the same dot" (60_exceptions.md R460). -/
def State.timaIncrement (s : State) : State :=
  if s.timer.tima = 0xFF then
    State.request .timer { s with timer := { s.timer with tima := s.timer.tma } }
  else { s with timer := { s.timer with tima := s.timer.tima + 1 } }

/-- The default model, after a count, a DIV write or a TAC write: where the gated bit has gone from 1 to 0, TIMA increments
(60_exceptions.md R460). -/
def State.gateEdge (s : State) : State :=
  let now := s.timer.gated
  let s' := { s with timer := { s.timer with gate := now } }
  if s.timer.gate && !now then s'.timaIncrement else s'

/-- Another model there: TIMA and the request are free values. -/
def State.otherTimer (n : Nat) (e : Config.TimerEvent) (s : State) : State :=
  let s' := { s with timer := { s.timer with tima := Config.timerTima n s.dot e s.timer } }
  if Config.timerRequest n s.dot e s.timer then State.request .timer s' else s'

/-- What the timer does after a count, a DIV write or a TAC write. -/
def State.timerEdge (e : Config.TimerEvent) (s : State) : State :=
  match s.params.timerModel with
  | .standard => s.gateEdge
  | .other n => s.otherTimer n e

/-- The free-running counter after a dot: one more in the default model (60_exceptions.md R460). -/
def State.nextSys (s : State) : BitVec 16 :=
  match s.params.timerModel with
  | .standard => s.timer.sys + 1
  | .other n => Config.timerSys n s.dot s.timer

/-- One dot of the timer. -/
def State.timerDot (s : State) : State :=
  State.timerEdge .count { s with timer := { s.timer with sys := s.nextSys } }

/-- A write to DIV: "resets the internal free-running counter to zero", whatever the value written (20_memory.md R143). -/
def State.writeDiv (s : State) : State :=
  State.timerEdge .divWrite { s with timer := { s.timer with sys := 0 } }

/-- A write to TAC: bits 2:0 (20_memory.md R143, R159). -/
def State.writeTac (v : Byte) (s : State) : State :=
  State.timerEdge .tacWrite { s with timer := { s.timer with tac := BitVec.ofNat 3 v.toNat } }

end Sys2Proof.Machine
end

