-- ==== Sys2Proof/Machine/Collab.lean ====
section
/-! DEFINITION. The serial and input collaborators, at their defaults and at any other model (60_exceptions.md R463 to R465, D28), and the
cartridge behind its interface (20_memory.md R100). -/

namespace Sys2Proof.Machine

/-! ### Serial -/

/-- The match index of a pattern after one more byte: it "advances when a byte equals the pattern's next byte, and resets when it does
not, then re-tests that byte against the pattern's first byte" (60_exceptions.md R464). -/
def matchNext (pattern : List Byte) (idx : Nat) (v : Byte) : Nat :=
  if pattern[idx]? = some v then idx + 1 else if pattern[0]? = some v then 1 else 0

/-- The host's scan of one byte of the stream; once a pattern has been found nothing more is examined (60_exceptions.md R464). Where
both patterns end on one byte the failure stands (log entry 13). -/
def Serial.scan (p : Params) (v : Byte) (t : Serial) : Serial :=
  match t.verdict with
  | some _ => t
  | none =>
    let fi := matchNext p.failPattern t.failIdx v
    let pi := matchNext p.passPattern t.passIdx v
    { t with
      failIdx := fi
      passIdx := pi
      verdict := if fi = p.failPattern.length then some .fail else if pi = p.passPattern.length then some .pass else none }

/-- A byte put out to the host's stream, and scanned (60_exceptions.md R463, R464). -/
def Serial.send (p : Params) (v : Byte) (t : Serial) : Serial := Serial.scan p v { t with out := t.out ++ [v] }

/-- The default at a write of SC, the bits stored: a start with the internal clock sends SB at once and completes 4096 dots later
(60_exceptions.md R463). `dot` is already the next dot's number here. -/
def State.standardSerial (s : State) : State :=
  if s.serial.start && s.serial.clock then
    { s with serial := Serial.send s.params s.serial.sb { s.serial with due := s.serial.due ++ [s.dot + 4095] } }
  else s

/-- Another `serialEvent` at a write of SC that starts a transfer: it may put out a byte. A write with bit 7 = 0 starts nothing. -/
def State.otherSerial (n : Nat) (s : State) : State :=
  match s.serial.start, Config.serialSent n s.dot s.serial with
  | true, some v => { s with serial := Serial.send s.params v s.serial }
  | _, _ => s

/-- A write to SC (20_memory.md R142; 60_exceptions.md R463): a high-speed start is refused, else the bits are stored and the collaborator acts. -/
def State.writeSc (v : Byte) (s : State) : State :=
  if bitOf v 7 && bitOf v 1 then s.markRefused .highSpeedSerial
  else
    let s' := { s with serial := { s.serial with start := bitOf v 7, fast := bitOf v 1, clock := bitOf v 0 } }
    match s.params.serialEvent with
    | .standard => s'.standardSerial
    | .other n => s'.otherSerial n

/-- A transfer completes with a byte: SB takes it, SC bit 7 is cleared, line 3 is requested (60_exceptions.md R463). -/
def State.serialDone (v : Byte) (s : State) : State :=
  State.request .serial { s with serial := { s.serial with sb := v, start := false } }

/-- The default in a dot: a transfer whose dot has come completes with 0xFF (60_exceptions.md R463). -/
def State.standardSerialDot (s : State) : State :=
  if s.dot ∈ s.serial.due then
    State.serialDone 0xFF { s with serial := { s.serial with due := s.serial.due.filter (· ≠ s.dot) } }
  else s

/-- Another `serialEvent` in a dot: it may complete a transfer with any byte. -/
def State.otherSerialDot (n : Nat) (s : State) : State :=
  match Config.serialReceived n s.dot s.serial with
  | some v => s.serialDone v
  | none => s

/-- One dot of the serial collaborator. -/
def State.serialDot (s : State) : State :=
  match s.params.serialEvent with
  | .standard => s.standardSerialDot
  | .other n => s.otherSerialDot n

/-! ### Joypad -/

/-- The low nibble of P1: the selected nibbles, ANDed (20_memory.md R141). -/
def Joypad.nibble (j : Joypad) : BitVec 4 :=
  (if j.sel.getLsbD 0 then 0xF else j.dirs) &&& (if j.sel.getLsbD 1 then 0xF else j.acts)

/-- Store a button's state in its nibble, 0 meaning pressed: {Down, Up, Left, Right} and {Start, Select, B, A}, first-named in bit 3
(20_memory.md R141). -/
def Joypad.setButton (which : Button) (pressed : Bool) (j : Joypad) : Joypad :=
  let put (n : BitVec 4) (i : Nat) : BitVec 4 :=
    if pressed then n &&& ~~~(BitVec.ofNat 4 (2 ^ i)) else n ||| BitVec.ofNat 4 (2 ^ i)
  match which with
  | .right => { j with dirs := put j.dirs 0 }
  | .left => { j with dirs := put j.dirs 1 }
  | .up => { j with dirs := put j.dirs 2 }
  | .down => { j with dirs := put j.dirs 3 }
  | .a => { j with acts := put j.acts 0 }
  | .b => { j with acts := put j.acts 1 }
  | .select => { j with acts := put j.acts 2 }
  | .start => { j with acts := put j.acts 3 }

/-- Whether an event requests line 4: by default where a bit of P1's low nibble goes from 1 to 0 (60_exceptions.md R465). -/
def State.joypadRequests (j : Joypad) (s : State) : Bool :=
  match s.params.joypadEvent with
  | .standard => s.joypad.nibble &&& ~~~j.nibble != 0
  | .other n => Config.joypadRequest n s.dot s.joypad j

/-- Deliver one button event: the button's state is stored, line 4 may be requested, any press event clears `stopped`
(60_exceptions.md R465, R417). -/
def State.buttonEvent (e : ButtonEvent) (s : State) : State :=
  let j := s.joypad.setButton e.button e.pressed
  let s1 := { s with
    joypad := j
    cpu := { s.cpu with stopped := s.cpu.stopped && !e.pressed } }
  if s.joypadRequests j then State.request .joypad s1 else s1

/-- Deliver the pending host events whose dot has come, in order; the others wait (60_exceptions.md R465: "delivered between dots"). -/
def deliverEvents : List ButtonEvent → State → State
  | [], s => { s with inputs := [] }
  | e :: es, s => if e.dot ≤ s.dot then deliverEvents es (s.buttonEvent e) else { s with inputs := e :: es }

/-! ### Cartridge -/

/-- `cart.read`: the test cartridge gives its image's byte in the ROM range and 0xFF in the RAM window (95_test_vectors.md section 0); a
controller gives the interface's answer (20_memory.md R100). -/
def State.cartRead (s : State) (a : Word) : Byte :=
  match s.cart.kind with
  | .test => if a.toNat < 0x8000 then s.rom a.toNat else 0xFF
  | .controlled => Config.cartRead s.cart.image s.cart.writes a

/-- The fatal condition a cartridge read may report (20_memory.md R168). -/
def State.cartReadFatal (s : State) (a : Word) : Option String :=
  match s.cart.kind with
  | .test => none
  | .controlled => Config.cartReadFatal s.cart.image s.cart.writes a

/-- `cart.write`: the test cartridge ignores it; a controller's state takes it in, and it may report a fatal condition
(20_memory.md R100, R102, R168). -/
def State.cartWrite (a : Word) (v : Byte) (s : State) : State :=
  match s.cart.kind with
  | .test => s
  | .controlled =>
    State.markFatal (Config.cartWriteFatal s.cart.image s.cart.writes a v)
      { s with cart := { s.cart with writes := s.cart.writes ++ [(a, v)] } }

end Sys2Proof.Machine
end

