-- ==== Sys2Proof/Machine/Ppu.lean ====
section
/-! DEFINITION. The picture pipeline, dot by dot (60_exceptions.md R440 to R457), with `transferDots`, `statIrq` and `spritePixel`
at their defaults (D25, D30, D37) and at any other model, and both values of `bgSampleDots`. -/

namespace Sys2Proof.Machine

/-- The four modes of a scanline (60_exceptions.md R440). -/
inductive Mode where
  | hBlank | vBlank | oamSearch | lcdTransfer
  deriving DecidableEq, Repr

/-- STAT bits 1:0 (20_memory.md R147). -/
def Mode.code : Mode → Nat
  | .hBlank => 0 | .vBlank => 1 | .oamSearch => 2 | .lcdTransfer => 3

/-- LCDC bit 7: the display is enabled (20_memory.md R146). -/
def Ppu.lcdOn (p : Ppu) : Bool := bitOf p.lcdc 7

/-- `ppuMode` (60_exceptions.md R440); H_BLANK while the display is disabled (R450). -/
def Ppu.mode (p : Ppu) : Mode :=
  if !p.lcdOn then .hBlank
  else if p.ly ≥ 144 then .vBlank
  else if p.lineDot < 80 then .oamSearch
  else if p.lineDot < 80 + p.transfer then .lcdTransfer
  else .hBlank

/-- LY as software reads it (20_memory.md R149). -/
def Ppu.lyByte (p : Ppu) : Byte := BitVec.ofNat 8 p.ly

/-- The condition of the STAT interrupt: the OR of the selected conditions, 0 while the display is disabled (60_exceptions.md R447). -/
def Ppu.statCondition (p : Ppu) : Bool :=
  p.lcdOn &&
    ((p.statSel.getLsbD 3 && p.lyByte == p.lyc) || (p.statSel.getLsbD 2 && p.mode == .oamSearch) ||
      (p.statSel.getLsbD 1 && p.mode == .vBlank) || (p.statSel.getLsbD 0 && p.mode == .hBlank))

/-- The STAT line of this dot; another `statIrq` requests where it answers 1, and nothing with the display disabled
(60_exceptions.md R447, R450). -/
def State.statNow (s : State) : Bool :=
  match s.params.statIrq with
  | .standard => s.ppu.statCondition
  | .other n => s.ppu.lcdOn && Config.statRequest n s.dot s.ppu

/-- What the line was before, for its edge: another `statIrq` has no edge, each answer of it is a request. -/
def State.statBefore (s : State) : Bool :=
  match s.params.statIrq with
  | .standard => s.ppu.statLine
  | .other _ => false

/-- The STAT line of a dot; its edge from 0 to 1 requests line 1 (60_exceptions.md R447). -/
def State.statDot (s : State) : State :=
  let s' := { s with ppu := { s.ppu with statLine := s.statNow } }
  if s.statNow && !s.statBefore then State.request .stat s' else s'

/-! ### Line and frame counters -/

/-- The advance of `lineDot` and `ly`, and the V-blank request when `ly` becomes 144 (60_exceptions.md R442). -/
def State.lineAdvance (s : State) : State :=
  if s.ppu.lineDot + 1 = 456 then
    let ly := if s.ppu.ly + 1 = 154 then 0 else s.ppu.ly + 1
    let s' := { s with ppu := { s.ppu with lineDot := 0, ly := ly } }
    if ly = 144 then State.request .vblank s' else s'
  else { s with ppu := { s.ppu with lineDot := s.ppu.lineDot + 1 } }

/-! ### OAM search -/

/-- A byte of OAM entry i as the pipeline reads it, never blocked (60_exceptions.md R448; 20_memory.md R166). -/
def State.oamByte (s : State) (i k : Nat) : Byte := s.ram (0xFE00 + 4 * i + k)

/-- OAM entry i. -/
def State.oamEntry (s : State) (i : Nat) : Sprite :=
  { index := i, y := s.oamByte i 0, x := s.oamByte i 1, tile := s.oamByte i 2, attrs := s.oamByte i 3 }

/-- `Y - 16 <= ly < Y - 16 + 8` and `X > 0` (60_exceptions.md R448). -/
def Sprite.selected (e : Sprite) (ly : Nat) : Bool :=
  e.y.toNat ≤ ly + 16 && ly + 16 < e.y.toNat + 8 && 0 < e.x.toNat

/-- Examine OAM entry i: append it to the candidate list if it is selected and the list holds fewer than 10 (60_exceptions.md R448). -/
def State.examine (i : Nat) (s : State) : State :=
  let e := s.oamEntry i
  if s.ppu.candidates.length < 10 && e.selected s.ppu.ly then
    { s with ppu := { s.ppu with candidates := s.ppu.candidates ++ [e] } }
  else s

/-- The start of a visible line in OAM_SEARCH: the per-line state is reset (70_reset_and_hazards.md R505), tall sprites are refused
(60_exceptions.md R456), entry 0 is examined (R448). -/
def State.startLine (s : State) : State :=
  let s1 := { s with ppu := { s.ppu with candidates := [], samples := [] } }
  let s2 := if bitOf s.ppu.lcdc 2 && bitOf s.ppu.lcdc 1 then s1.markRefused .tallSprites else s1
  s2.examine 0

/-! ### LCD transfer -/

/-- The background registers as they stand now. -/
def Ppu.bgSample (p : Ppu) : BgSample := { lcdc := p.lcdc, scx := p.scx, scy := p.scy }

/-- `transferDots` at its default: `172 + (SCX mod 8) + 6 n` (60_exceptions.md R441, D30). -/
def Ppu.transferDots (p : Ppu) : Nat := 172 + p.scx.toNat % 8 + 6 * p.candidates.length

/-- `transferDots` of this line, from 172 to 376 (60_exceptions.md R441). -/
def State.transferDots (s : State) : Nat :=
  match s.params.transferDots with
  | .standard => s.ppu.transferDots
  | .other n => 172 + Config.transferExtra n s.dot s.ppu % 205

/-- `lineDot = 80`: T is fixed, the background registers are sampled, an enabled window is refused (60_exceptions.md R441, R452, R454). -/
def State.startTransfer (s : State) : State :=
  let s1 := { s with ppu := { s.ppu with transfer := s.transferDots, samples := [s.ppu.bgSample] } }
  if bitOf s.ppu.lcdc 5 then s1.markRefused .window else s1

/-- With `bgSampleDots = perTile` the registers are sampled again when a later 8-pixel group is fetched, at dot
`80 + 8 g` (60_exceptions.md R452). -/
def State.sampleGroup (s : State) : State :=
  if s.params.bgSampling = .perTile ∧ s.ppu.mode = .lcdTransfer ∧ (s.ppu.lineDot - 80) % 8 = 0 then
    { s with ppu := { s.ppu with samples := s.ppu.samples ++ [s.ppu.bgSample] } }
  else s

/-- SCX mod 8 of the line: the initial scroll discard (60_exceptions.md R441, R453). It is that of the line's first sample, at `lineDot = 80`.
DESIGN CHOICE (unsafe, log entry 25): with `bgSampleDots = perTile` the group of every column is reckoned with it as well, whatever SCX is
written during the line; R452 does not say which SCX its group formula reads. -/
def Ppu.discard (p : Ppu) : Nat :=
  match p.samples with
  | [] => 0
  | r :: _ => r.scx.toNat % 8

/-- The sample that governs the p-th pixel of the line's background stream, the discarded pixels counted (60_exceptions.md R452). For
column x callers pass x and the line's discard: log entry 25. -/
def State.sampleFor (s : State) (p : Nat) : BgSample :=
  match s.params.bgSampling with
  | .perLine => s.ppu.samples.getD 0 s.ppu.bgSample
  | .perTile => s.ppu.samples.getD (p / 8) s.ppu.bgSample

/-- The byte of video RAM at an address, read by the pipeline itself, never blocked (20_memory.md R166). -/
def State.vramByte (s : State) (a : Nat) : Byte := s.ram a

/-- `2 * hi[b] + lo[b]`: a pixel of the two bytes of a tile row, bit 7 leftmost (60_exceptions.md R452). -/
def tilePixel (lo hi : Byte) (b : Nat) : Nat := 2 * (bitOf hi b).toNat + (bitOf lo b).toNat

/-- `tileAddr`: unsigned numbers from 0x8000, or signed ones from 0x9000 (60_exceptions.md R452). -/
def tileAddr (lcdc t : Byte) : Nat :=
  if bitOf lcdc 4 then 0x8000 + 16 * t.toNat
  else if t.toNat < 128 then 0x9000 + 16 * t.toNat else 0x9000 + 16 * t.toNat - 0x1000

/-- `bgIndex` at background column bx (already in [0, 255]) with the sampled registers (60_exceptions.md R452). -/
def State.bgColumn (s : State) (r : BgSample) (bx : Nat) : Nat :=
  if !bitOf r.lcdc 0 then 0
  else
    let yPos := (r.scy.toNat + s.ppu.ly) % 256
    let mapBase := if bitOf r.lcdc 3 then 0x9C00 else 0x9800
    let t := s.vramByte (mapBase + 32 * (yPos / 8) + bx / 8)
    let row := tileAddr r.lcdc t + 2 * (yPos % 8)
    tilePixel (s.vramByte row) (s.vramByte (row + 1)) (7 - bx % 8)

/-- `bgIndex(x, ly)` (60_exceptions.md R452). -/
def State.bgIndex (s : State) (x : Nat) : Nat :=
  let r := s.sampleFor (x + s.ppu.discard)
  s.bgColumn r ((r.scx.toNat + x) % 256)

/-- The colour index of a candidate at column x, 0 where it does not cover x (60_exceptions.md R455). -/
def State.spriteIndex (s : State) (e : Sprite) (x : Nat) : Nat :=
  if e.x.toNat ≤ x + 8 && x < e.x.toNat then
    let col := x + 8 - e.x.toNat
    let c := if bitOf e.attrs 5 then 7 - col else col
    let line := s.ppu.ly + 16 - e.y.toNat
    let r := if bitOf e.attrs 6 then 7 - line else line
    let row := 0x8000 + 16 * e.tile.toNat + 2 * r
    tilePixel (s.vramByte row) (s.vramByte (row + 1)) (7 - c)
  else 0

/-- Of two non-transparent entries, the one with the smaller X; among equal X the earlier in the list, whose OAM index is lower
(60_exceptions.md R455). -/
def spriteWinner : List Sprite → Option Sprite
  | [] => none
  | e :: es =>
    match spriteWinner es with
    | none => some e
    | some w => if w.x.toNat < e.x.toNat then some w else some e

/-- What `spritePixel` returns: colour index, palette (true for OBP1), and whether it is drawn over a non-zero background
(60_exceptions.md R455). -/
structure SpritePixel where
  index : Nat
  obp1 : Bool
  front : Bool
  deriving DecidableEq, Repr

/-- `spritePixel(line state, x)` at its default (60_exceptions.md R455, D37). -/
def State.defaultSpritePixel (s : State) (x : Nat) : Option SpritePixel :=
  if !bitOf s.ppu.lcdc 1 then none
  else
    match spriteWinner (s.ppu.candidates.filter (fun e => s.spriteIndex e x ≠ 0)) with
    | none => none
    | some e => some { index := s.spriteIndex e x, obp1 := bitOf e.attrs 4, front := !bitOf e.attrs 7 }

/-- `spritePixel(line state, x)`; of another model the colour index is 1 to 3 (60_exceptions.md R455). -/
def State.spritePixel (s : State) (x : Nat) : Option SpritePixel :=
  match s.params.spritePixel with
  | .standard => s.defaultSpritePixel x
  | .other n =>
    (Config.spritePixel n s.dot s.ppu s.mem x).map fun r => { index := r.1.val + 1, obp1 := r.2.1, front := r.2.2 }

/-- The shade of a colour index through a palette register (20_memory.md R152). -/
def paletteShade (palette : Byte) (index : Nat) : Byte := BitVec.ofNat 8 (palette.toNat / 4 ^ index % 4)

/-- The shade emitted for pixel x: a winning sprite, else the background, else 0; the palettes as they stand now
(60_exceptions.md R453). -/
def State.pixelShade (s : State) (x : Nat) : Byte :=
  let bg := s.bgIndex x
  let bgShade := if bitOf (s.sampleFor (x + s.ppu.discard)).lcdc 0 then paletteShade s.ppu.bgp bg else 0
  match s.spritePixel x with
  | some p => if p.front || bg = 0 then paletteShade (if p.obp1 then s.ppu.obp1 else s.ppu.obp0) p.index else bgShade
  | none => bgShade

/-- Pixel x is emitted at `lineDot = 80 + T - 160 + x` and stored at (x, ly) of the frame buffer (60_exceptions.md R453, R451). -/
def State.emit (s : State) : State :=
  let first := 80 + s.ppu.transfer - 160
  if first ≤ s.ppu.lineDot && s.ppu.lineDot < first + 160 then
    let x := s.ppu.lineDot - first
    let v := s.pixelShade x
    { s with ppu := { s.ppu with frame := Memory.set Config.frameBlank s.ppu.frame (160 * s.ppu.ly + x) v } }
  else s

/-! ### The dot -/

/-- What happens at the new `lineDot` of a visible line (60_exceptions.md R440: events "at `lineDot = k`"). -/
def State.lineEvents (s : State) : State :=
  if s.ppu.ly ≥ 144 then s
  else if s.ppu.lineDot = 0 then s.startLine
  else if s.ppu.lineDot < 80 then
    if s.ppu.lineDot % 2 = 0 then s.examine (s.ppu.lineDot / 2) else s
  else if s.ppu.lineDot = 80 then s.startTransfer
  else s.sampleGroup.emit

/-- One dot of the pipeline: nothing but the STAT line while the display is disabled (60_exceptions.md R442, R450). -/
def State.ppuDot (s : State) : State :=
  if s.ppu.lcdOn then s.lineAdvance.lineEvents.statDot else s.statDot

/-! ### Writes that reach the pipeline -/

/-- A write to LCDC: clearing bit 7 puts the pipeline at line 0, dot 0 and stops it; setting it again starts line 0 in OAM_SEARCH
(20_memory.md R146, R159; 60_exceptions.md R450; log entry 14). -/
def State.writeLcdc (v : Byte) (s : State) : State :=
  let s1 := { s with ppu := { s.ppu with lcdc := v } }
  if !bitOf v 7 then { s1 with ppu := { s1.ppu with ly := 0, lineDot := 0 } }
  else if s.ppu.lcdOn then s1
  else State.startLine { s1 with ppu := { s1.ppu with ly := 0, lineDot := 0 } }

/-- STAT as software reads it: bit 7 reads 1, bits 6:3 stored, bits 2:0 computed (20_memory.md R147; 60_exceptions.md R446). -/
def Ppu.statByte (p : Ppu) : Byte :=
  BitVec.ofNat 8 (0x80 + 8 * p.statSel.toNat + (if p.lyByte = p.lyc then 4 else 0) + p.mode.code)

/-! ### The frame call -/

/-- The copy of the frame buffer a frame call returns: all shade 0 if the display is disabled then (60_exceptions.md R457). -/
def State.frameCopy (s : State) : Memory := if s.ppu.lcdOn then s.ppu.frame else []

/-- The end of a frame call, after every 70224th dot (20_memory.md R90): the copy and the frozen record (60_exceptions.md R457, R426). Run
before the next dot, so that the last dot's machine cycle is in it. -/
def State.frameEnd (s : State) : State :=
  if 0 < s.dot ∧ s.dot % 70224 = 0 then
    { s with report := some { pixels := s.frameCopy, frozen := s.cpu.frozen } }
  else s

/-! ### The pixel queue as a view

A fetcher with the source's structures that gives exactly the transfer length and the emission dots above, where T is at least 172 and the
line's discard, as by default (60_exceptions.md R449). It is a function of the position in the line, so nothing of it is stored. Log entry
20. -/

/-- The steps of the background fetcher's 8-dot sub-cycle (60_exceptions.md R449). -/
inductive FetcherStep where
  | tileId | dataLow | dataHigh | push
  deriving DecidableEq, Repr

/-- The dot at which the fetcher starts: the dots of the line beyond 172 and the discard (by default 6 for each sprite fetch) come first. -/
def Ppu.fetcherStart (p : Ppu) : Nat := 80 + (p.transfer - 172 - p.discard)

/-- Dots since the fetcher started on this line; none outside LCD_TRANSFER. -/
def Ppu.fetcherDot (p : Ppu) : Option Nat :=
  if p.mode = .lcdTransfer ∧ p.fetcherStart ≤ p.lineDot then some (p.lineDot - p.fetcherStart) else none

/-- The fetcher's step: the first one outside a transfer. -/
def Ppu.fetcherStep (p : Ppu) : FetcherStep :=
  match p.fetcherDot with
  | none => .tileId
  | some j => if j % 8 < 2 then .tileId else if j % 8 < 4 then .dataLow else if j % 8 < 6 then .dataHigh else .push

/-- Pixels pushed so far on this line: 8 at the end of each sub-cycle. -/
def pushedBy (j : Nat) : Nat := 8 * ((j + 1) / 8)

/-- Pixels popped so far on this line, discarded ones included: one a dot from the 13th dot on. -/
def poppedBy (j : Nat) : Nat := (j + 1) - 12

/-- The pixel queue: the background indexes pushed and not yet popped. -/
def State.pixelQueue (s : State) : List Nat :=
  match s.ppu.fetcherDot with
  | none => []
  | some j =>
    (List.range (pushedBy j - poppedBy j)).map fun k =>
      let p := poppedBy j + k
      let r := s.sampleFor p
      s.bgColumn r ((r.scx.toNat + 256 + p - s.ppu.discard) % 256)

end Sys2Proof.Machine
end

