-- ==== Sys2Proof/Machine/Router.lean ====
section
/-! DEFINITION. The memory router: who owns an address, its read and its write (20_memory.md R95 to R109, R116, R140 to R159), and
the read of the OAM DMA engine (R131). -/

namespace Sys2Proof.Machine

/-- The owners of the address space (20_memory.md R101). -/
inductive Owner where
  | cart | videoRam | workRam | oam | unusable | io | hram | ie
  deriving DecidableEq, Repr

/-- Address folding: 0xE000-0xFDFF is 0xC000-0xDDFF (20_memory.md R107). -/
def fold (n : Nat) : Nat := if 0xE000 ≤ n ∧ n < 0xFE00 then n - 0x2000 else n

/-- The owner of a folded address (20_memory.md R101): a pure function of the address (R116). -/
def owner (n : Nat) : Owner :=
  if n < 0x8000 then .cart
  else if n < 0xA000 then .videoRam
  else if n < 0xC000 then .cart
  else if n < 0xFE00 then .workRam
  else if n < 0xFEA0 then .oam
  else if n < 0xFF00 then .unusable
  else if n < 0xFF80 then .io
  else if n < 0xFFFF then .hram
  else .ie

/-- `svbk`: the bank number in effect, SVBK bits 2:0 or 1 where they are 0 (20_memory.md R106). -/
def State.wramBank (s : State) : Nat := if s.svbk = 0 then 1 else s.svbk.toNat

/-- Where `State.mem` keeps a RAM byte of a folded address: at the address itself; banks 2 to 7 of work RAM, which share the addresses
0xD000-0xDFFF with bank 1, at 0x12000 and up (20_memory.md R106). -/
def State.ramKey (s : State) (n : Nat) : Nat :=
  if 0xD000 ≤ n ∧ n < 0xE000 ∧ 1 < s.wramBank then 0x10000 + 0x1000 * s.wramBank + (n - 0xD000) else n

/-- `vramBlocked` (20_memory.md R104). -/
def State.vramBlocked (s : State) : Bool := s.ppu.lcdOn && s.ppu.mode == .lcdTransfer

/-- `oamBlocked` (20_memory.md R108). -/
def State.oamBlocked (s : State) : Bool :=
  s.dma.active || (s.ppu.lcdOn && (s.ppu.mode == .oamSearch || s.ppu.mode == .lcdTransfer))

/-! ### The I/O page -/

/-- The registers of the I/O page (20_memory.md R141 to R156). -/
inductive IoReg where
  | p1 | sb | sc | div | tima | tma | tac | iflag | sound | lcdc | stat | scy | scx | ly | lyc | dma
  | bgp | obp0 | obp1 | wy | wx | key1 | rp | svbk | unmapped
  deriving DecidableEq, Repr

/-- The addresses of the I/O registers; every other address of the page is unmapped (20_memory.md R140 to R156). -/
def ioReg (n : Nat) : IoReg :=
  if n = 0xFF00 then .p1
  else if n = 0xFF01 then .sb
  else if n = 0xFF02 then .sc
  else if n = 0xFF04 then .div
  else if n = 0xFF05 then .tima
  else if n = 0xFF06 then .tma
  else if n = 0xFF07 then .tac
  else if n = 0xFF0F then .iflag
  else if 0xFF10 ≤ n ∧ n ≤ 0xFF26 then .sound
  else if 0xFF30 ≤ n ∧ n ≤ 0xFF3F then .sound
  else if n = 0xFF40 then .lcdc
  else if n = 0xFF41 then .stat
  else if n = 0xFF42 then .scy
  else if n = 0xFF43 then .scx
  else if n = 0xFF44 then .ly
  else if n = 0xFF45 then .lyc
  else if n = 0xFF46 then .dma
  else if n = 0xFF47 then .bgp
  else if n = 0xFF48 then .obp0
  else if n = 0xFF49 then .obp1
  else if n = 0xFF4A then .wy
  else if n = 0xFF4B then .wx
  else if n = 0xFF4D then .key1
  else if n = 0xFF56 then .rp
  else if n = 0xFF70 then .svbk
  else .unmapped

/-- P1 as software reads it: bits 7:6 read 1 (20_memory.md R141). -/
def Joypad.p1Byte (j : Joypad) : Byte := BitVec.ofNat 8 (0xC0 + 16 * j.sel.toNat + j.nibble.toNat)

/-- SC as software reads it: bits 6:2 read 1 (20_memory.md R142). -/
def Serial.scByte (t : Serial) : Byte := bitAt 7 t.start ||| 0x7C ||| bitAt 1 t.fast ||| bitAt 0 t.clock

/-- DIV: bits 15:8 of the free-running counter (60_exceptions.md R460). -/
def Timer.divByte (t : Timer) : Byte := hi t.sys

/-- TAC as software reads it: bits 7:3 read 1 (20_memory.md R143). -/
def Timer.tacByte (t : Timer) : Byte := BitVec.ofNat 8 (0xF8 + t.tac.toNat)

/-- IF as software reads it: bits 7:5 read 1 (10_state.md R59; 20_memory.md R144). -/
def Irq.ifByte (q : Irq) : Byte := BitVec.ofNat 8 (0xE0 + q.flags.toNat)

/-- `soundModel.read(addr)`: by default the last byte written, or 0xFF (60_exceptions.md R466). -/
def State.soundRead (s : State) (n : Nat) : Byte :=
  match s.params.soundModel with
  | .standard => Memory.get Config.soundBlank s.sound n
  | .other m => Config.soundRead m s.dot s.sound n

/-- A read of an I/O register; none has a side effect (20_memory.md R140, R165). `n` is the address. -/
def State.readIo (s : State) (n : Nat) : Byte :=
  match ioReg n with
  | .p1 => s.joypad.p1Byte
  | .sb => s.serial.sb
  | .sc => s.serial.scByte
  | .div => s.timer.divByte
  | .tima => s.timer.tima
  | .tma => s.timer.tma
  | .tac => s.timer.tacByte
  | .iflag => s.irq.ifByte
  | .sound => s.soundRead n
  | .lcdc => s.ppu.lcdc
  | .stat => s.ppu.statByte
  | .scy => s.ppu.scy
  | .scx => s.ppu.scx
  | .ly => s.ppu.lyByte
  | .lyc => s.ppu.lyc
  | .dma => s.dma.reg
  | .bgp => s.ppu.bgp
  | .obp0 => s.ppu.obp0
  | .obp1 => s.ppu.obp1
  | .wy => s.ppu.wy
  | .wx => s.ppu.wx
  | .key1 => 0x7E ||| bitAt 0 s.key1
  | .rp => 0xFF
  | .svbk => BitVec.ofNat 8 (0xF8 + s.svbk.toNat)
  | .unmapped => 0xFF

/-- A write to the DMA register starts a transfer, or abandons the active one for a new one (20_memory.md R128, R133). -/
def State.startDma (v : Byte) (s : State) : State :=
  { s with dma := { reg := v, active := true, src := pair v 0, index := 0 } }

/-- A write to an I/O register: the writable bits are stored, the side effects are those of 20_memory.md R159. `n` is the address. -/
def State.writeIo (n : Nat) (v : Byte) (s : State) : State :=
  match ioReg n with
  | .p1 => { s with joypad := { s.joypad with sel := BitVec.ofNat 2 (v.toNat / 16) } }
  | .sb => { s with serial := { s.serial with sb := v } }
  | .sc => s.writeSc v
  | .div => s.writeDiv
  | .tima => { s with timer := { s.timer with tima := v } }
  | .tma => { s with timer := { s.timer with tma := v } }
  | .tac => s.writeTac v
  | .iflag => { s with irq := { s.irq with flags := BitVec.ofNat 5 v.toNat } }
  | .sound => { s with sound := Memory.set Config.soundBlank s.sound n v }
  | .lcdc => s.writeLcdc v
  | .stat => { s with ppu := { s.ppu with statSel := BitVec.ofNat 4 (v.toNat / 8) } }
  | .scy => { s with ppu := { s.ppu with scy := v } }
  | .scx => { s with ppu := { s.ppu with scx := v } }
  | .ly => s
  | .lyc => { s with ppu := { s.ppu with lyc := v } }
  | .dma => s.startDma v
  | .bgp => { s with ppu := { s.ppu with bgp := v } }
  | .obp0 => { s with ppu := { s.ppu with obp0 := v } }
  | .obp1 => { s with ppu := { s.ppu with obp1 := v } }
  | .wy => { s with ppu := { s.ppu with wy := v } }
  | .wx => { s with ppu := { s.ppu with wx := v } }
  | .key1 => { s with key1 := bitOf v 0 }
  | .rp => s.markRefused .infrared
  | .svbk => { s with svbk := BitVec.ofNat 3 v.toNat }
  | .unmapped => s

/-! ### Read and write -/

/-- The router's `read` (20_memory.md R101, R103 to R109, R157, R158). -/
def State.routerRead (s : State) (a : Word) : Byte :=
  let n := fold a.toNat
  match owner n with
  | .cart => s.cartRead a
  | .videoRam => if s.vramBlocked then 0xFF else s.ram (s.ramKey n)
  | .workRam => s.ram (s.ramKey n)
  | .oam => if s.oamBlocked then 0xFF else s.ram (s.ramKey n)
  | .unusable => 0x00
  | .io => s.readIo n
  | .hram => s.ram (s.ramKey n)
  | .ie => s.irq.enable

/-- What a read of the address makes the cartridge report: a fatal condition only where the cartridge owns it (20_memory.md R168). -/
def State.readFatal (s : State) (a : Word) : Option String :=
  match owner (fold a.toNat) with
  | .cart => s.cartReadFatal a
  | _ => none

/-- The router's `write` (20_memory.md R102, R159). -/
def State.routerWrite (a : Word) (v : Byte) (s : State) : State :=
  let n := fold a.toNat
  match owner n with
  | .cart => s.cartWrite a v
  | .videoRam => if s.vramBlocked then s else s.setRam (s.ramKey n) v
  | .workRam => s.setRam (s.ramKey n) v
  | .oam => if s.oamBlocked then s else s.setRam (s.ramKey n) v
  | .unusable => s
  | .io => s.writeIo n v
  | .hram => s.setRam (s.ramKey n) v
  | .ie => { s with irq := { s.irq with enable := v } }

/-! ### The read of the DMA engine -/

/-- `dmaRead`: the router's read without the blocking conditions below 0xE000, the fold of the mirror, and a free byte from 0xFE00 up
(20_memory.md R131). -/
def State.dmaRead (s : State) (a : Word) : Byte :=
  let n := fold a.toNat
  match owner n with
  | .cart => s.cartRead a
  | .videoRam => s.ram (s.ramKey n)
  | .workRam => s.ram (s.ramKey n)
  | .oam => Config.dmaHighByte s.freeCount
  | .unusable => Config.dmaHighByte s.freeCount
  | .io => Config.dmaHighByte s.freeCount
  | .hram => Config.dmaHighByte s.freeCount
  | .ie => Config.dmaHighByte s.freeCount

end Sys2Proof.Machine
end

