-- ==== Sys2Proof/Machine/Clock.lean ====
section
/-! DEFINITION. Time: the dot (20_memory.md R90, R91), the OAM DMA step (R129, R130) and the machine cycle (R92, R93). -/

namespace Sys2Proof.Machine

/-- One dot: the end of a frame call where one is due, the host's button events ("delivered between dots", 60_exceptions.md R465), then the
timer, the picture pipeline and the serial collaborator (20_memory.md R91). -/
def State.tickDot (s : State) : State :=
  let s1 := s.frameEnd
  let s2 := (deliverEvents s1.inputs s1).timerDot.ppuDot.serialDot
  { s2 with dot := s2.dot + 1 }

/-- Several dots. -/
def State.ticks : Nat → State → State
  | 0, s => s
  | n + 1, s => State.ticks n s.tickDot

/-- How many dots run up to and with the dot of the core's next machine cycle, the next d with `d mod 4 = cpuPhase` (20_memory.md R92). -/
def State.dotsToCore (s : State) : Nat := (s.params.cpuPhase.val + 4 - s.dot % 4) % 4 + 1

/-- The DMA step of a machine cycle (20_memory.md R130, R132). A source address of 0xFE00 or above draws a free byte (R131). -/
def State.dmaStep (s : State) : State :=
  if s.dma.active ∧ s.dma.index < 160 then
    let a := s.dma.src + BitVec.ofNat 16 s.dma.index
    let s1 := State.markFatal (s.readFatal a) (s.setRam (0xFE00 + s.dma.index) (s.dmaRead a))
    { s1 with
      dma := { s1.dma with index := s1.dma.index + 1 }
      freeCount := if 0xFE00 ≤ a.toNat then s1.freeCount + 1 else s1.freeCount }
  else s

/-- The beginning of a machine cycle: the peripherals' dots up to its own, then the DMA step (20_memory.md R93). -/
def State.beginCycle (s : State) : State := (State.ticks s.dotsToCore s).dmaStep

/-- The end of a machine cycle: a transfer whose 160 bytes are copied ends, and `mcycle` counts (20_memory.md R93, R130). -/
def State.endCycle (s : State) : State :=
  { s with
    dma := { s.dma with active := s.dma.active && s.dma.index != 160 }
    sched := { s.sched with mcycle := s.sched.mcycle + 1 } }

/-- From one machine cycle of an instruction to the next: `remaining` counts the cycles still to run (10_state.md R57). -/
def State.nextCycle (s : State) : State :=
  State.beginCycle
    (let e := s.endCycle
     { e with sched := { e.sched with remaining := e.sched.remaining - 1 } })

end Sys2Proof.Machine
end

