-- ==== Sys2Proof/Syntax.lean ====
section
/-! DEFINITION. The instruction set as data: one constructor of `Instr` per row of spec/opcode_table.json (30_encoding.md
R179, R180, R183, R185), the operand tables of R173, and the families of constructors by their operand fields (R176 to
R178, R182). -/

namespace Sys2Proof

/-- The 8-bit registers of the operand table `r8` (30_encoding.md R173), code 6 `(HL)` apart, which is memory. -/
inductive Reg8 where
  | b | c | d | e | h | l | a
  deriving DecidableEq, Repr

/-- The operand table `r16` (30_encoding.md R173). -/
inductive Pair where
  | bc | de | hl | sp
  deriving DecidableEq, Repr

/-- The operand table `r16stk` (30_encoding.md R173). -/
inductive StackPair where
  | bc | de | hl | af
  deriving DecidableEq, Repr

/-- The conditions `cc` (30_encoding.md R173; 44_control.md R350). -/
inductive Cond where
  | nz | z | nc | c
  deriving DecidableEq, Repr

/-- The operation table `alu` (30_encoding.md R173). -/
inductive AluOp where
  | add | adc | sub | sbc | and | xor | or | cp
  deriving DecidableEq, Repr

/-- The operation table `rot` (30_encoding.md R173). -/
inductive RotOp where
  | rlc | rrc | rl | rr | sla | sra | swap | srl
  deriving DecidableEq, Repr

/-- A 3-bit opcode field y: a bit index or an RST number (30_encoding.md R172, R173). -/
inductive Oct where
  | y0 | y1 | y2 | y3 | y4 | y5 | y6 | y7
  deriving DecidableEq, Repr

/-- The number of a 3-bit field. -/
def Oct.toNat : Oct → Nat
  | .y0 => 0 | .y1 => 1 | .y2 => 2 | .y3 => 3 | .y4 => 4 | .y5 => 5 | .y6 => 6 | .y7 => 7

/-- The eleven undefined primary opcodes (30_encoding.md R180). -/
inductive Undefined where
  | d3 | db | dd | e3 | e4 | eb | ec | ed | f4 | fc | fd
  deriving DecidableEq, Repr

/-- The instructions, one constructor per row of spec/opcode_table.json: first the rows
with an immediate, then the others, each part in the table's order (Lean's runtime numbers constructors with fields up to 244). `n` is an unsigned
immediate byte, `e` a displacement byte, `nn` a 16-bit immediate (30_encoding.md R174). -/
inductive Instr where
  | ldBcNn (nn : Word)
  | ldBN (n : Byte)
  | ldMemNnSp (nn : Word)
  | ldCN (n : Byte)
  | ldDeNn (nn : Word)
  | ldDN (n : Byte)
  | jrE (e : Byte)
  | ldEN (n : Byte)
  | jrNzE (e : Byte)
  | ldHlNn (nn : Word)
  | ldHN (n : Byte)
  | jrZE (e : Byte)
  | ldLN (n : Byte)
  | jrNcE (e : Byte)
  | ldSpNn (nn : Word)
  | ldMemHlN (n : Byte)
  | jrCE (e : Byte)
  | ldAN (n : Byte)
  | jpNzNn (nn : Word)
  | jpNn (nn : Word)
  | callNzNn (nn : Word)
  | addAN (n : Byte)
  | jpZNn (nn : Word)
  | callZNn (nn : Word)
  | callNn (nn : Word)
  | adcAN (n : Byte)
  | jpNcNn (nn : Word)
  | callNcNn (nn : Word)
  | subN (n : Byte)
  | jpCNn (nn : Word)
  | callCNn (nn : Word)
  | sbcAN (n : Byte)
  | ldhMemNA (n : Byte)
  | andN (n : Byte)
  | addSpE (e : Byte)
  | ldMemNnA (nn : Word)
  | xorN (n : Byte)
  | ldhAMemN (n : Byte)
  | orN (n : Byte)
  | ldHlSpE (e : Byte)
  | ldAMemNn (nn : Word)
  | cpN (n : Byte)
  | nop
  | ldMemBcA
  | incBc
  | incB
  | decB
  | rlca
  | addHlBc
  | ldAMemBc
  | decBc
  | incC
  | decC
  | rrca
  | stop
  | ldMemDeA
  | incDe
  | incD
  | decD
  | rla
  | addHlDe
  | ldAMemDe
  | decDe
  | incE
  | decE
  | rra
  | ldMemHlIncA
  | incHl
  | incH
  | decH
  | daa
  | addHlHl
  | ldAMemHlInc
  | decHl
  | incL
  | decL
  | cpl
  | ldMemHlDecA
  | incSp
  | incMemHl
  | decMemHl
  | scf
  | addHlSp
  | ldAMemHlDec
  | decSp
  | incA
  | decA
  | ccf
  | ldBB
  | ldBC
  | ldBD
  | ldBE
  | ldBH
  | ldBL
  | ldBMemHl
  | ldBA
  | ldCB
  | ldCC
  | ldCD
  | ldCE
  | ldCH
  | ldCL
  | ldCMemHl
  | ldCA
  | ldDB
  | ldDC
  | ldDD
  | ldDE
  | ldDH
  | ldDL
  | ldDMemHl
  | ldDA
  | ldEB
  | ldEC
  | ldED
  | ldEE
  | ldEH
  | ldEL
  | ldEMemHl
  | ldEA
  | ldHB
  | ldHC
  | ldHD
  | ldHE
  | ldHH
  | ldHL
  | ldHMemHl
  | ldHA
  | ldLB
  | ldLC
  | ldLD
  | ldLE
  | ldLH
  | ldLL
  | ldLMemHl
  | ldLA
  | ldMemHlB
  | ldMemHlC
  | ldMemHlD
  | ldMemHlE
  | ldMemHlH
  | ldMemHlL
  | halt
  | ldMemHlA
  | ldAB
  | ldAC
  | ldAD
  | ldAE
  | ldAH
  | ldAL
  | ldAMemHl
  | ldAA
  | addAB
  | addAC
  | addAD
  | addAE
  | addAH
  | addAL
  | addAMemHl
  | addAA
  | adcAB
  | adcAC
  | adcAD
  | adcAE
  | adcAH
  | adcAL
  | adcAMemHl
  | adcAA
  | subB
  | subC
  | subD
  | subE
  | subH
  | subL
  | subMemHl
  | subA
  | sbcAB
  | sbcAC
  | sbcAD
  | sbcAE
  | sbcAH
  | sbcAL
  | sbcAMemHl
  | sbcAA
  | andB
  | andC
  | andD
  | andE
  | andH
  | andL
  | andMemHl
  | andA
  | xorB
  | xorC
  | xorD
  | xorE
  | xorH
  | xorL
  | xorMemHl
  | xorA
  | orB
  | orC
  | orD
  | orE
  | orH
  | orL
  | orMemHl
  | orA
  | cpB
  | cpC
  | cpD
  | cpE
  | cpH
  | cpL
  | cpMemHl
  | cpA
  | retNz
  | popBc
  | pushBc
  | rst00
  | retZ
  | ret
  | prefixCb
  | rst08
  | retNc
  | popDe
  | illegalD3
  | pushDe
  | rst10
  | retC
  | reti
  | illegalDB
  | illegalDD
  | rst18
  | popHl
  | ldhMemCA
  | illegalE3
  | illegalE4
  | pushHl
  | rst20
  | jpHl
  | illegalEB
  | illegalEC
  | illegalED
  | rst28
  | popAf
  | ldhAMemC
  | di
  | illegalF4
  | pushAf
  | rst30
  | ldSpHl
  | ei
  | illegalFC
  | illegalFD
  | rst38
  | rlcB
  | rlcC
  | rlcD
  | rlcE
  | rlcH
  | rlcL
  | rlcMemHl
  | rlcA
  | rrcB
  | rrcC
  | rrcD
  | rrcE
  | rrcH
  | rrcL
  | rrcMemHl
  | rrcA
  | rlB
  | rlC
  | rlD
  | rlE
  | rlH
  | rlL
  | rlMemHl
  | rlA
  | rrB
  | rrC
  | rrD
  | rrE
  | rrH
  | rrL
  | rrMemHl
  | rrA
  | slaB
  | slaC
  | slaD
  | slaE
  | slaH
  | slaL
  | slaMemHl
  | slaA
  | sraB
  | sraC
  | sraD
  | sraE
  | sraH
  | sraL
  | sraMemHl
  | sraA
  | swapB
  | swapC
  | swapD
  | swapE
  | swapH
  | swapL
  | swapMemHl
  | swapA
  | srlB
  | srlC
  | srlD
  | srlE
  | srlH
  | srlL
  | srlMemHl
  | srlA
  | bit0B
  | bit0C
  | bit0D
  | bit0E
  | bit0H
  | bit0L
  | bit0MemHl
  | bit0A
  | bit1B
  | bit1C
  | bit1D
  | bit1E
  | bit1H
  | bit1L
  | bit1MemHl
  | bit1A
  | bit2B
  | bit2C
  | bit2D
  | bit2E
  | bit2H
  | bit2L
  | bit2MemHl
  | bit2A
  | bit3B
  | bit3C
  | bit3D
  | bit3E
  | bit3H
  | bit3L
  | bit3MemHl
  | bit3A
  | bit4B
  | bit4C
  | bit4D
  | bit4E
  | bit4H
  | bit4L
  | bit4MemHl
  | bit4A
  | bit5B
  | bit5C
  | bit5D
  | bit5E
  | bit5H
  | bit5L
  | bit5MemHl
  | bit5A
  | bit6B
  | bit6C
  | bit6D
  | bit6E
  | bit6H
  | bit6L
  | bit6MemHl
  | bit6A
  | bit7B
  | bit7C
  | bit7D
  | bit7E
  | bit7H
  | bit7L
  | bit7MemHl
  | bit7A
  | res0B
  | res0C
  | res0D
  | res0E
  | res0H
  | res0L
  | res0MemHl
  | res0A
  | res1B
  | res1C
  | res1D
  | res1E
  | res1H
  | res1L
  | res1MemHl
  | res1A
  | res2B
  | res2C
  | res2D
  | res2E
  | res2H
  | res2L
  | res2MemHl
  | res2A
  | res3B
  | res3C
  | res3D
  | res3E
  | res3H
  | res3L
  | res3MemHl
  | res3A
  | res4B
  | res4C
  | res4D
  | res4E
  | res4H
  | res4L
  | res4MemHl
  | res4A
  | res5B
  | res5C
  | res5D
  | res5E
  | res5H
  | res5L
  | res5MemHl
  | res5A
  | res6B
  | res6C
  | res6D
  | res6E
  | res6H
  | res6L
  | res6MemHl
  | res6A
  | res7B
  | res7C
  | res7D
  | res7E
  | res7H
  | res7L
  | res7MemHl
  | res7A
  | set0B
  | set0C
  | set0D
  | set0E
  | set0H
  | set0L
  | set0MemHl
  | set0A
  | set1B
  | set1C
  | set1D
  | set1E
  | set1H
  | set1L
  | set1MemHl
  | set1A
  | set2B
  | set2C
  | set2D
  | set2E
  | set2H
  | set2L
  | set2MemHl
  | set2A
  | set3B
  | set3C
  | set3D
  | set3E
  | set3H
  | set3L
  | set3MemHl
  | set3A
  | set4B
  | set4C
  | set4D
  | set4E
  | set4H
  | set4L
  | set4MemHl
  | set4A
  | set5B
  | set5C
  | set5D
  | set5E
  | set5H
  | set5L
  | set5MemHl
  | set5A
  | set6B
  | set6C
  | set6D
  | set6E
  | set6H
  | set6L
  | set6MemHl
  | set6A
  | set7B
  | set7C
  | set7D
  | set7E
  | set7H
  | set7L
  | set7MemHl
  | set7A
  deriving DecidableEq, Repr

namespace Instr

/-- `LD r8[y], r8[z]` (30_encoding.md R176). -/
def ldReg : Reg8 → Reg8 → Instr
  | .b, .b => .ldBB | .b, .c => .ldBC | .b, .d => .ldBD | .b, .e => .ldBE | .b, .h => .ldBH | .b, .l => .ldBL | .b, .a => .ldBA
  | .c, .b => .ldCB | .c, .c => .ldCC | .c, .d => .ldCD | .c, .e => .ldCE | .c, .h => .ldCH | .c, .l => .ldCL | .c, .a => .ldCA
  | .d, .b => .ldDB | .d, .c => .ldDC | .d, .d => .ldDD | .d, .e => .ldDE | .d, .h => .ldDH | .d, .l => .ldDL | .d, .a => .ldDA
  | .e, .b => .ldEB | .e, .c => .ldEC | .e, .d => .ldED | .e, .e => .ldEE | .e, .h => .ldEH | .e, .l => .ldEL | .e, .a => .ldEA
  | .h, .b => .ldHB | .h, .c => .ldHC | .h, .d => .ldHD | .h, .e => .ldHE | .h, .h => .ldHH | .h, .l => .ldHL | .h, .a => .ldHA
  | .l, .b => .ldLB | .l, .c => .ldLC | .l, .d => .ldLD | .l, .e => .ldLE | .l, .h => .ldLH | .l, .l => .ldLL | .l, .a => .ldLA
  | .a, .b => .ldAB | .a, .c => .ldAC | .a, .d => .ldAD | .a, .e => .ldAE | .a, .h => .ldAH | .a, .l => .ldAL | .a, .a => .ldAA

/-- `LD r8[y], n` (R177). -/
def ldImm : Reg8 → Byte → Instr
  | .b, n => .ldBN n | .c, n => .ldCN n | .d, n => .ldDN n | .e, n => .ldEN n | .h, n => .ldHN n | .l, n => .ldLN n | .a, n => .ldAN n

/-- `LD r8[y], (HL)` (R176). -/
def ldRegMem : Reg8 → Instr
  | .b => .ldBMemHl | .c => .ldCMemHl | .d => .ldDMemHl | .e => .ldEMemHl | .h => .ldHMemHl | .l => .ldLMemHl | .a => .ldAMemHl

/-- `LD (HL), r8[z]` (R176). -/
def ldMemReg : Reg8 → Instr
  | .b => .ldMemHlB | .c => .ldMemHlC | .d => .ldMemHlD | .e => .ldMemHlE | .h => .ldMemHlH | .l => .ldMemHlL | .a => .ldMemHlA

/-- `alu[y] A, r8[z]` (R176). -/
def aluReg : AluOp → Reg8 → Instr
  | .add, .b => .addAB | .add, .c => .addAC | .add, .d => .addAD | .add, .e => .addAE | .add, .h => .addAH | .add, .l => .addAL | .add, .a => .addAA
  | .adc, .b => .adcAB | .adc, .c => .adcAC | .adc, .d => .adcAD | .adc, .e => .adcAE | .adc, .h => .adcAH | .adc, .l => .adcAL | .adc, .a => .adcAA
  | .sub, .b => .subB | .sub, .c => .subC | .sub, .d => .subD | .sub, .e => .subE | .sub, .h => .subH | .sub, .l => .subL | .sub, .a => .subA
  | .sbc, .b => .sbcAB | .sbc, .c => .sbcAC | .sbc, .d => .sbcAD | .sbc, .e => .sbcAE | .sbc, .h => .sbcAH | .sbc, .l => .sbcAL | .sbc, .a => .sbcAA
  | .and, .b => .andB | .and, .c => .andC | .and, .d => .andD | .and, .e => .andE | .and, .h => .andH | .and, .l => .andL | .and, .a => .andA
  | .xor, .b => .xorB | .xor, .c => .xorC | .xor, .d => .xorD | .xor, .e => .xorE | .xor, .h => .xorH | .xor, .l => .xorL | .xor, .a => .xorA
  | .or, .b => .orB | .or, .c => .orC | .or, .d => .orD | .or, .e => .orE | .or, .h => .orH | .or, .l => .orL | .or, .a => .orA
  | .cp, .b => .cpB | .cp, .c => .cpC | .cp, .d => .cpD | .cp, .e => .cpE | .cp, .h => .cpH | .cp, .l => .cpL | .cp, .a => .cpA

/-- `alu[y] A, (HL)` (R176). -/
def aluMem : AluOp → Instr
  | .add => .addAMemHl | .adc => .adcAMemHl | .sub => .subMemHl | .sbc => .sbcAMemHl | .and => .andMemHl | .xor => .xorMemHl | .or => .orMemHl | .cp => .cpMemHl

/-- `alu[y] A, n` (R178). -/
def aluImm : AluOp → Byte → Instr
  | .add, n => .addAN n | .adc, n => .adcAN n | .sub, n => .subN n | .sbc, n => .sbcAN n | .and, n => .andN n | .xor, n => .xorN n | .or, n => .orN n | .cp, n => .cpN n

/-- `INC r8[y]` (R177). -/
def incReg : Reg8 → Instr
  | .b => .incB | .c => .incC | .d => .incD | .e => .incE | .h => .incH | .l => .incL | .a => .incA

/-- `DEC r8[y]` (R177). -/
def decReg : Reg8 → Instr
  | .b => .decB | .c => .decC | .d => .decD | .e => .decE | .h => .decH | .l => .decL | .a => .decA

/-- `LD r16[p], nn` (R177). -/
def ldPair : Pair → Word → Instr
  | .bc, nn => .ldBcNn nn | .de, nn => .ldDeNn nn | .hl, nn => .ldHlNn nn | .sp, nn => .ldSpNn nn

/-- `ADD HL, r16[p]` (R177). -/
def addHlPair : Pair → Instr
  | .bc => .addHlBc | .de => .addHlDe | .hl => .addHlHl | .sp => .addHlSp

/-- `INC r16[p]` (R177). -/
def incPair : Pair → Instr
  | .bc => .incBc | .de => .incDe | .hl => .incHl | .sp => .incSp

/-- `DEC r16[p]` (R177). -/
def decPair : Pair → Instr
  | .bc => .decBc | .de => .decDe | .hl => .decHl | .sp => .decSp

/-- `PUSH r16stk[p]` (R178). -/
def push : StackPair → Instr
  | .bc => .pushBc | .de => .pushDe | .hl => .pushHl | .af => .pushAf

/-- `POP r16stk[p]` (R178). -/
def pop : StackPair → Instr
  | .bc => .popBc | .de => .popDe | .hl => .popHl | .af => .popAf

/-- `JR cc, e` (R177). -/
def jrIf : Cond → Byte → Instr
  | .nz, e => .jrNzE e | .z, e => .jrZE e | .nc, e => .jrNcE e | .c, e => .jrCE e

/-- `JP cc, nn` (R178). -/
def jpIf : Cond → Word → Instr
  | .nz, nn => .jpNzNn nn | .z, nn => .jpZNn nn | .nc, nn => .jpNcNn nn | .c, nn => .jpCNn nn

/-- `CALL cc, nn` (R178). -/
def callIf : Cond → Word → Instr
  | .nz, nn => .callNzNn nn | .z, nn => .callZNn nn | .nc, nn => .callNcNn nn | .c, nn => .callCNn nn

/-- `RET cc` (R178). -/
def retIf : Cond → Instr
  | .nz => .retNz | .z => .retZ | .nc => .retNc | .c => .retC

/-- `RST y*8` (R178). -/
def rst : Oct → Instr
  | .y0 => .rst00 | .y1 => .rst08 | .y2 => .rst10 | .y3 => .rst18 | .y4 => .rst20 | .y5 => .rst28 | .y6 => .rst30 | .y7 => .rst38

/-- The undefined opcodes (R180). -/
def illegal : Undefined → Instr
  | .d3 => .illegalD3 | .db => .illegalDB | .dd => .illegalDD | .e3 => .illegalE3 | .e4 => .illegalE4 | .eb => .illegalEB | .ec => .illegalEC | .ed => .illegalED | .f4 => .illegalF4 | .fc => .illegalFC | .fd => .illegalFD

/-- `rot[y] r8[z]`, prefixed (R182). -/
def rotReg : RotOp → Reg8 → Instr
  | .rlc, .b => .rlcB | .rlc, .c => .rlcC | .rlc, .d => .rlcD | .rlc, .e => .rlcE | .rlc, .h => .rlcH | .rlc, .l => .rlcL | .rlc, .a => .rlcA
  | .rrc, .b => .rrcB | .rrc, .c => .rrcC | .rrc, .d => .rrcD | .rrc, .e => .rrcE | .rrc, .h => .rrcH | .rrc, .l => .rrcL | .rrc, .a => .rrcA
  | .rl, .b => .rlB | .rl, .c => .rlC | .rl, .d => .rlD | .rl, .e => .rlE | .rl, .h => .rlH | .rl, .l => .rlL | .rl, .a => .rlA
  | .rr, .b => .rrB | .rr, .c => .rrC | .rr, .d => .rrD | .rr, .e => .rrE | .rr, .h => .rrH | .rr, .l => .rrL | .rr, .a => .rrA
  | .sla, .b => .slaB | .sla, .c => .slaC | .sla, .d => .slaD | .sla, .e => .slaE | .sla, .h => .slaH | .sla, .l => .slaL | .sla, .a => .slaA
  | .sra, .b => .sraB | .sra, .c => .sraC | .sra, .d => .sraD | .sra, .e => .sraE | .sra, .h => .sraH | .sra, .l => .sraL | .sra, .a => .sraA
  | .swap, .b => .swapB | .swap, .c => .swapC | .swap, .d => .swapD | .swap, .e => .swapE | .swap, .h => .swapH | .swap, .l => .swapL | .swap, .a => .swapA
  | .srl, .b => .srlB | .srl, .c => .srlC | .srl, .d => .srlD | .srl, .e => .srlE | .srl, .h => .srlH | .srl, .l => .srlL | .srl, .a => .srlA

/-- `rot[y] (HL)`, prefixed (R182). -/
def rotMem : RotOp → Instr
  | .rlc => .rlcMemHl | .rrc => .rrcMemHl | .rl => .rlMemHl | .rr => .rrMemHl | .sla => .slaMemHl | .sra => .sraMemHl | .swap => .swapMemHl | .srl => .srlMemHl

/-- `BIT y, r8[z]`, prefixed (R182). -/
def bitReg : Oct → Reg8 → Instr
  | .y0, .b => .bit0B | .y0, .c => .bit0C | .y0, .d => .bit0D | .y0, .e => .bit0E | .y0, .h => .bit0H | .y0, .l => .bit0L | .y0, .a => .bit0A
  | .y1, .b => .bit1B | .y1, .c => .bit1C | .y1, .d => .bit1D | .y1, .e => .bit1E | .y1, .h => .bit1H | .y1, .l => .bit1L | .y1, .a => .bit1A
  | .y2, .b => .bit2B | .y2, .c => .bit2C | .y2, .d => .bit2D | .y2, .e => .bit2E | .y2, .h => .bit2H | .y2, .l => .bit2L | .y2, .a => .bit2A
  | .y3, .b => .bit3B | .y3, .c => .bit3C | .y3, .d => .bit3D | .y3, .e => .bit3E | .y3, .h => .bit3H | .y3, .l => .bit3L | .y3, .a => .bit3A
  | .y4, .b => .bit4B | .y4, .c => .bit4C | .y4, .d => .bit4D | .y4, .e => .bit4E | .y4, .h => .bit4H | .y4, .l => .bit4L | .y4, .a => .bit4A
  | .y5, .b => .bit5B | .y5, .c => .bit5C | .y5, .d => .bit5D | .y5, .e => .bit5E | .y5, .h => .bit5H | .y5, .l => .bit5L | .y5, .a => .bit5A
  | .y6, .b => .bit6B | .y6, .c => .bit6C | .y6, .d => .bit6D | .y6, .e => .bit6E | .y6, .h => .bit6H | .y6, .l => .bit6L | .y6, .a => .bit6A
  | .y7, .b => .bit7B | .y7, .c => .bit7C | .y7, .d => .bit7D | .y7, .e => .bit7E | .y7, .h => .bit7H | .y7, .l => .bit7L | .y7, .a => .bit7A

/-- `BIT y, (HL)`, prefixed (R182). -/
def bitMem : Oct → Instr
  | .y0 => .bit0MemHl | .y1 => .bit1MemHl | .y2 => .bit2MemHl | .y3 => .bit3MemHl | .y4 => .bit4MemHl | .y5 => .bit5MemHl | .y6 => .bit6MemHl | .y7 => .bit7MemHl

/-- `RES y, r8[z]`, prefixed (R182). -/
def resReg : Oct → Reg8 → Instr
  | .y0, .b => .res0B | .y0, .c => .res0C | .y0, .d => .res0D | .y0, .e => .res0E | .y0, .h => .res0H | .y0, .l => .res0L | .y0, .a => .res0A
  | .y1, .b => .res1B | .y1, .c => .res1C | .y1, .d => .res1D | .y1, .e => .res1E | .y1, .h => .res1H | .y1, .l => .res1L | .y1, .a => .res1A
  | .y2, .b => .res2B | .y2, .c => .res2C | .y2, .d => .res2D | .y2, .e => .res2E | .y2, .h => .res2H | .y2, .l => .res2L | .y2, .a => .res2A
  | .y3, .b => .res3B | .y3, .c => .res3C | .y3, .d => .res3D | .y3, .e => .res3E | .y3, .h => .res3H | .y3, .l => .res3L | .y3, .a => .res3A
  | .y4, .b => .res4B | .y4, .c => .res4C | .y4, .d => .res4D | .y4, .e => .res4E | .y4, .h => .res4H | .y4, .l => .res4L | .y4, .a => .res4A
  | .y5, .b => .res5B | .y5, .c => .res5C | .y5, .d => .res5D | .y5, .e => .res5E | .y5, .h => .res5H | .y5, .l => .res5L | .y5, .a => .res5A
  | .y6, .b => .res6B | .y6, .c => .res6C | .y6, .d => .res6D | .y6, .e => .res6E | .y6, .h => .res6H | .y6, .l => .res6L | .y6, .a => .res6A
  | .y7, .b => .res7B | .y7, .c => .res7C | .y7, .d => .res7D | .y7, .e => .res7E | .y7, .h => .res7H | .y7, .l => .res7L | .y7, .a => .res7A

/-- `RES y, (HL)`, prefixed (R182). -/
def resMem : Oct → Instr
  | .y0 => .res0MemHl | .y1 => .res1MemHl | .y2 => .res2MemHl | .y3 => .res3MemHl | .y4 => .res4MemHl | .y5 => .res5MemHl | .y6 => .res6MemHl | .y7 => .res7MemHl

/-- `SET y, r8[z]`, prefixed (R182). -/
def setReg : Oct → Reg8 → Instr
  | .y0, .b => .set0B | .y0, .c => .set0C | .y0, .d => .set0D | .y0, .e => .set0E | .y0, .h => .set0H | .y0, .l => .set0L | .y0, .a => .set0A
  | .y1, .b => .set1B | .y1, .c => .set1C | .y1, .d => .set1D | .y1, .e => .set1E | .y1, .h => .set1H | .y1, .l => .set1L | .y1, .a => .set1A
  | .y2, .b => .set2B | .y2, .c => .set2C | .y2, .d => .set2D | .y2, .e => .set2E | .y2, .h => .set2H | .y2, .l => .set2L | .y2, .a => .set2A
  | .y3, .b => .set3B | .y3, .c => .set3C | .y3, .d => .set3D | .y3, .e => .set3E | .y3, .h => .set3H | .y3, .l => .set3L | .y3, .a => .set3A
  | .y4, .b => .set4B | .y4, .c => .set4C | .y4, .d => .set4D | .y4, .e => .set4E | .y4, .h => .set4H | .y4, .l => .set4L | .y4, .a => .set4A
  | .y5, .b => .set5B | .y5, .c => .set5C | .y5, .d => .set5D | .y5, .e => .set5E | .y5, .h => .set5H | .y5, .l => .set5L | .y5, .a => .set5A
  | .y6, .b => .set6B | .y6, .c => .set6C | .y6, .d => .set6D | .y6, .e => .set6E | .y6, .h => .set6H | .y6, .l => .set6L | .y6, .a => .set6A
  | .y7, .b => .set7B | .y7, .c => .set7C | .y7, .d => .set7D | .y7, .e => .set7E | .y7, .h => .set7H | .y7, .l => .set7L | .y7, .a => .set7A

/-- `SET y, (HL)`, prefixed (R182). -/
def setMem : Oct → Instr
  | .y0 => .set0MemHl | .y1 => .set1MemHl | .y2 => .set2MemHl | .y3 => .set3MemHl | .y4 => .set4MemHl | .y5 => .set5MemHl | .y6 => .set6MemHl | .y7 => .set7MemHl

end Instr

end Sys2Proof
end

