-- ==== Sys2Proof/WellFormed.lean ====
section
/-! DEFINITION. Which terms of `Instr` are whole instructions. Every operand field is a bit vector of the encoding's own
width (30_encoding.md R173, R174), so no operand value is out of range; the one term that is not an instruction by itself is the
bare prefix. -/

namespace Sys2Proof.Instr

/-- The byte 0xCB alone (45_system.md R385): it becomes an instruction only with its second byte. -/
def isBareCb (i : Instr) : Bool := i == .prefixCb

/-- A whole instruction: any but the bare 0xCB, which "and its second byte form one instruction" (45_system.md R385), so
that its words are those of a prefixed row. -/
def wellFormed (i : Instr) : Bool := !i.isBareCb

end Sys2Proof.Instr
end

