-- ==== Sys2Proof/Machine/Flags.lean ====
section
/-! DEFINITION. Every flag computation of the spec: the carry helpers (00_scope.md R23), the layout of F (10_state.md R44, R45) and the results with
their flags of the arithmetic, logic, rotate and bit operations. -/

namespace Sys2Proof.Machine

/-! ### The helpers of 00_scope.md R23, "all on unbounded integers" -/

/-- `carry4(a, b, c)`: the carry out of bit 3. -/
def carry4 (a b c : Nat) : Bool := decide (a % 16 + b % 16 + c > 0xF)

/-- `carry8(a, b, c)`: the carry out of bit 7. -/
def carry8 (a b c : Nat) : Bool := decide (a + b + c > 0xFF)

/-- `borrow4(a, b, c)`: the borrow from bit 4. -/
def borrow4 (a b c : Nat) : Bool := decide (a % 16 < b % 16 + c)

/-- `borrow8(a, b, c)`: the borrow into bit 7. -/
def borrow8 (a b c : Nat) : Bool := decide (a < b + c)

/-- `carry12(a, b)`: the carry out of bit 11. -/
def carry12 (a b : Nat) : Bool := decide (a % 4096 + b % 4096 > 0xFFF)

/-- `carry16(a, b)`: the carry out of bit 15. -/
def carry16 (a b : Nat) : Bool := decide (a + b > 0xFFFF)

/-! ### The layout of F -/

/-- F from its four flags: Z bit 7, N bit 6, H bit 5, C bit 4, bits 3:0 zero (10_state.md R44, R45). -/
def packFlags (z n h c : Bool) : Byte := bitAt 7 z ||| bitAt 6 n ||| bitAt 5 h ||| bitAt 4 c

/-- F.Z. -/
def flagZ (f : Byte) : Bool := bitOf f 7

/-- F.N. -/
def flagN (f : Byte) : Bool := bitOf f 6

/-- F.H. -/
def flagH (f : Byte) : Bool := bitOf f 5

/-- F.C. -/
def flagC (f : Byte) : Bool := bitOf f 4

/-- A byte result and the F it leaves. -/
structure ByteResult where
  value : Byte
  flags : Byte
  deriving DecidableEq, Repr

/-- A word result and the F it leaves. -/
structure WordResult where
  value : Word
  flags : Byte
  deriving DecidableEq, Repr

/-! ### The eight ALU operations (41_alu8.md R250 to R274) -/

/-- ADD and ADC with carry-in c (R251, R254). -/
def addByte (a v : Byte) (c : Bool) : ByteResult :=
  let r := BitVec.ofNat 8 (a.toNat + v.toNat + c.toNat)
  { value := r, flags := packFlags (r == 0) false (carry4 a.toNat v.toNat c.toNat) (carry8 a.toNat v.toNat c.toNat) }

/-- SUB and SBC with carry-in c (R257, R260). -/
def subByte (a v : Byte) (c : Bool) : ByteResult :=
  let r := a - v - BitVec.ofNat 8 c.toNat
  { value := r, flags := packFlags (r == 0) true (borrow4 a.toNat v.toNat c.toNat) (borrow8 a.toNat v.toNat c.toNat) }

/-- AND (R263). -/
def andByte (a v : Byte) : ByteResult := { value := a &&& v, flags := packFlags (a &&& v == 0) false true false }

/-- XOR (R266). -/
def xorByte (a v : Byte) : ByteResult := { value := a ^^^ v, flags := packFlags (a ^^^ v == 0) false false false }

/-- OR (R269). -/
def orByte (a v : Byte) : ByteResult := { value := a ||| v, flags := packFlags (a ||| v == 0) false false false }

/-- What an ALU operation leaves in A and F, from A, the second operand and F: `CP` is SUB that keeps A (R272). -/
def aluByte (op : AluOp) (a v f : Byte) : ByteResult :=
  match op with
  | .add => addByte a v false
  | .adc => addByte a v (flagC f)
  | .sub => subByte a v false
  | .sbc => subByte a v (flagC f)
  | .and => andByte a v
  | .xor => xorByte a v
  | .or => orByte a v
  | .cp => { subByte a v false with value := a }

/-! ### INC, DEC, DAA, CPL, SCF, CCF (41_alu8.md R275 to R282) -/

/-- INC of a byte: C unchanged (R275, R276). -/
def incByte (v f : Byte) : ByteResult :=
  { value := v + 1, flags := packFlags (v + 1 == 0) false (v.toNat % 16 == 0xF) (flagC f) }

/-- DEC of a byte: C unchanged (R277, R278). -/
def decByte (v f : Byte) : ByteResult :=
  { value := v - 1, flags := packFlags (v - 1 == 0) true (v.toNat % 16 == 0) (flagC f) }

/-- The addition branch of DAA (R279): the two adjustments in the spec's order. -/
def daaAdd (a : Byte) (h c : Bool) : Byte × Bool :=
  let high := c || decide (a.toNat > 0x99)
  let a1 := if high then a + 0x60 else a
  (if h || decide (a1.toNat % 16 > 9) then a1 + 0x06 else a1, high)

/-- The subtraction branch of DAA (R279): "the subtraction branch never changes C". -/
def daaSub (a : Byte) (h c : Bool) : Byte × Bool :=
  let a1 := if c then a - 0x60 else a
  (if h then a1 - 0x06 else a1, c)

/-- DAA (R279). -/
def daaByte (a f : Byte) : ByteResult :=
  let r := if flagN f then daaSub a (flagH f) (flagC f) else daaAdd a (flagH f) (flagC f)
  { value := r.1, flags := packFlags (r.1 == 0) (flagN f) false r.2 }

/-- CPL (R280): Z and C unchanged. -/
def cplByte (a f : Byte) : ByteResult := { value := a ^^^ 0xFF, flags := packFlags (flagZ f) true true (flagC f) }

/-- The F of SCF (R281): Z unchanged. -/
def scfFlags (f : Byte) : Byte := packFlags (flagZ f) false false true

/-- The F of CCF (R282): Z unchanged. -/
def ccfFlags (f : Byte) : Byte := packFlags (flagZ f) false false (!flagC f)

/-! ### 16-bit arithmetic (42_alu16.md R290 to R295) -/

/-- `ADD HL,rr`: Z unchanged (R291). -/
def addWord (a b : Word) (f : Byte) : WordResult :=
  { value := a + b, flags := packFlags (flagZ f) false (carry12 a.toNat b.toNat) (carry16 a.toNat b.toNat) }

/-- SP plus a signed displacement, flags from the low byte and the displacement's byte pattern (R294, R295). -/
def addSigned (sp : Word) (e : Byte) : WordResult :=
  { value := sp + sext e
    flags := packFlags false false (carry4 sp.toNat e.toNat 0) (carry8 (sp.toNat % 256) e.toNat 0) }

/-! ### Rotates, shifts and bits (43_rotate_shift_bit.md R310 to R336) -/

/-- The result and the carry out of a rotate or shift, from the operand and the old C (R311 to R330). DEDUCED, log entry 23: for A = 0 the
through-carry forms RLA and RRA follow the pseudocode and the Flags line of R313 and R314 (the carry is the bit moved out, the old C
moves in), not the parenthesis of their corner-case sentence ("F.C = old C"). -/
def rotByte (op : RotOp) (v : Byte) (c : Bool) : Byte × Bool :=
  match op with
  | .rlc => (v <<< 1 ||| bitAt 0 (bitOf v 7), bitOf v 7)
  | .rrc => (v >>> 1 ||| bitAt 7 (bitOf v 0), bitOf v 0)
  | .rl => (v <<< 1 ||| bitAt 0 c, bitOf v 7)
  | .rr => (v >>> 1 ||| bitAt 7 c, bitOf v 0)
  | .sla => (v <<< 1, bitOf v 7)
  | .sra => (v >>> 1 ||| (v &&& 0x80), bitOf v 0)
  | .swap => (v <<< 4 ||| v >>> 4, false)
  | .srl => (v >>> 1, bitOf v 0)

/-- A prefixed rotate or shift: Z from the result, N = H = 0 (R310). -/
def rotResult (op : RotOp) (v f : Byte) : ByteResult :=
  let r := rotByte op v (flagC f)
  { value := r.1, flags := packFlags (r.1 == 0) false false r.2 }

/-- An accumulator rotate: "Z = 0 always" (R311 to R314). -/
def rotAccResult (op : RotOp) (v f : Byte) : ByteResult :=
  let r := rotByte op v (flagC f)
  { value := r.1, flags := packFlags false false false r.2 }

/-- The F of BIT b: Z set where the bit is 0, C unchanged (R331, R332). -/
def bitFlags (b : Oct) (v f : Byte) : Byte := packFlags (!bitOf v b.toNat) false true (flagC f)

/-- RES b (R333, R334). -/
def resByte (b : Oct) (v : Byte) : Byte := v &&& ~~~(bitAt b.toNat true)

/-- SET b (R335, R336). -/
def setByte (b : Oct) (v : Byte) : Byte := v ||| bitAt b.toNat true

end Sys2Proof.Machine
end

