-- ==== Sys2Proof/Machine/Operands.lean ====
section
/-! DEFINITION. The operand forms (30_encoding.md R173 to R175): registers, pairs, stack pairs, conditions, fields and addresses. -/

namespace Sys2Proof.Machine

/-! ### Registers -/

/-- `r8[i]` (30_encoding.md R173; 10_state.md R40). -/
def Cpu.reg (p : Cpu) : Reg8 → Byte
  | .b => p.b | .c => p.c | .d => p.d | .e => p.e | .h => p.h | .l => p.l | .a => p.a

/-- `r8[i] <- v`: "writing one half leaves the other half unchanged" (10_state.md R41). -/
def Cpu.setReg (r : Reg8) (v : Byte) (p : Cpu) : Cpu :=
  match r with
  | .b => { p with b := v }
  | .c => { p with c := v }
  | .d => { p with d := v }
  | .e => { p with e := v }
  | .h => { p with h := v }
  | .l => { p with l := v }
  | .a => { p with a := v }

/-- `r16[i]` (30_encoding.md R173; 10_state.md R41). -/
def Cpu.pairReg (p : Cpu) : Pair → Word
  | .bc => pair p.b p.c | .de => pair p.d p.e | .hl => pair p.h p.l | .sp => p.sp

/-- `r16[i] <- w`: "writing a pair writes both halves" (10_state.md R41). -/
def Cpu.setPair (q : Pair) (w : Word) (p : Cpu) : Cpu :=
  match q with
  | .bc => { p with b := hi w, c := lo w }
  | .de => { p with d := hi w, e := lo w }
  | .hl => { p with h := hi w, l := lo w }
  | .sp => { p with sp := w }

/-- `r16stk[i]` (30_encoding.md R173). -/
def Cpu.stackPair (p : Cpu) : StackPair → Word
  | .bc => pair p.b p.c | .de => pair p.d p.e | .hl => pair p.h p.l | .af => pair p.a p.f

/-- `r16stk[i] <- w`: bits 3:0 of F become 0 (10_state.md R45; 40_loads.md R225, R226). -/
def Cpu.setStackPair (q : StackPair) (w : Word) (p : Cpu) : Cpu :=
  match q with
  | .bc => { p with b := hi w, c := lo w }
  | .de => { p with d := hi w, e := lo w }
  | .hl => { p with h := hi w, l := lo w }
  | .af => { p with a := hi w, f := lo w &&& 0xF0 }

/-- Change the core's registers only. -/
def State.mapCpu (g : Cpu → Cpu) (s : State) : State := { s with cpu := g s.cpu }

/-- Write an 8-bit register. -/
def State.setReg (r : Reg8) (v : Byte) (s : State) : State := s.mapCpu (Cpu.setReg r v)

/-- Write a pair. -/
def State.setPair (q : Pair) (w : Word) (s : State) : State := s.mapCpu (Cpu.setPair q w)

/-- Write F. -/
def State.setFlags (f : Byte) (s : State) : State := { s with cpu := { s.cpu with f := f } }

/-- Write A and F. -/
def State.setAcc (r : ByteResult) (s : State) : State := { s with cpu := { s.cpu with a := r.value, f := r.flags } }

/-- Write PC. -/
def State.setPc (w : Word) (s : State) : State := { s with cpu := { s.cpu with pc := w } }

/-- Write SP. -/
def State.setSp (w : Word) (s : State) : State := { s with cpu := { s.cpu with sp := w } }

/-! ### Addresses -/

/-- BC as an address. -/
def State.bc (s : State) : Word := s.cpu.pairReg .bc

/-- DE as an address. -/
def State.de (s : State) : Word := s.cpu.pairReg .de

/-- HL as an address. -/
def State.hl (s : State) : Word := s.cpu.pairReg .hl

/-- `{0xFF, n}`: a high-page address (30_encoding.md R174). -/
def highPage (n : Byte) : Word := pair 0xFF n

/-! ### Conditions -/

/-- `cond(cc)` (44_control.md R350). -/
def condHolds (k : Cond) (f : Byte) : Bool :=
  match k with
  | .nz => !flagZ f
  | .z => flagZ f
  | .nc => !flagC f
  | .c => flagC f

/-- The condition of a 2-bit field (30_encoding.md R173). -/
def condOf (cc : Nat) : Cond :=
  match cc with
  | 0 => .nz
  | 1 => .z
  | 2 => .nc
  | _ => .c

/-! ### Fields of a prefixed opcode -/

/-- The operand of a 3-bit code: a register, or none for code 6, the byte at HL (30_encoding.md R173). -/
def operandOf (z : Nat) : Option Reg8 :=
  match z with
  | 0 => some .b
  | 1 => some .c
  | 2 => some .d
  | 3 => some .e
  | 4 => some .h
  | 5 => some .l
  | 6 => none
  | _ => some .a

/-- The rotate or shift of a 3-bit code (30_encoding.md R173). -/
def rotOf (y : Nat) : RotOp :=
  match y with
  | 0 => .rlc
  | 1 => .rrc
  | 2 => .rl
  | 3 => .rr
  | 4 => .sla
  | 5 => .sra
  | 6 => .swap
  | _ => .srl

/-- A 3-bit field (30_encoding.md R172). -/
def octOf (y : Nat) : Oct :=
  match y with
  | 0 => .y0
  | 1 => .y1
  | 2 => .y2
  | 3 => .y3
  | 4 => .y4
  | 5 => .y5
  | 6 => .y6
  | _ => .y7

end Sys2Proof.Machine
end

