-- ==== Sys2Proof/Machine/Timing.lean ====
section
/-! DEFINITION. How many machine cycles each instruction takes (70_reset_and_hazards.md R520; 30_encoding.md R179, R183), from which
the core sets `remaining` (10_state.md R57; 60_exceptions.md R400). -/

namespace Sys2Proof.Machine

/-- Row 0x of the cycle counts of the primary map, taken (30_encoding.md R179). -/
def cyclesRow0 : List Nat := [1, 3, 2, 2, 1, 1, 2, 1, 5, 2, 2, 2, 1, 1, 2, 1]

/-- Row 1x of the cycle counts of the primary map, taken (30_encoding.md R179). -/
def cyclesRow1 : List Nat := [1, 3, 2, 2, 1, 1, 2, 1, 3, 2, 2, 2, 1, 1, 2, 1]

/-- Row 2x of the cycle counts of the primary map, taken (30_encoding.md R179). -/
def cyclesRow2 : List Nat := [3, 3, 2, 2, 1, 1, 2, 1, 3, 2, 2, 2, 1, 1, 2, 1]

/-- Row 3x of the cycle counts of the primary map, taken (30_encoding.md R179). -/
def cyclesRow3 : List Nat := [3, 3, 2, 2, 3, 3, 3, 1, 3, 2, 2, 2, 1, 1, 2, 1]

/-- Row 4x of the cycle counts of the primary map, taken (30_encoding.md R179). -/
def cyclesRow4 : List Nat := [1, 1, 1, 1, 1, 1, 2, 1, 1, 1, 1, 1, 1, 1, 2, 1]

/-- Row 5x of the cycle counts of the primary map, taken (30_encoding.md R179). -/
def cyclesRow5 : List Nat := [1, 1, 1, 1, 1, 1, 2, 1, 1, 1, 1, 1, 1, 1, 2, 1]

/-- Row 6x of the cycle counts of the primary map, taken (30_encoding.md R179). -/
def cyclesRow6 : List Nat := [1, 1, 1, 1, 1, 1, 2, 1, 1, 1, 1, 1, 1, 1, 2, 1]

/-- Row 7x of the cycle counts of the primary map, taken (30_encoding.md R179). -/
def cyclesRow7 : List Nat := [2, 2, 2, 2, 2, 2, 1, 2, 1, 1, 1, 1, 1, 1, 2, 1]

/-- Row 8x of the cycle counts of the primary map, taken (30_encoding.md R179). -/
def cyclesRow8 : List Nat := [1, 1, 1, 1, 1, 1, 2, 1, 1, 1, 1, 1, 1, 1, 2, 1]

/-- Row 9x of the cycle counts of the primary map, taken (30_encoding.md R179). -/
def cyclesRow9 : List Nat := [1, 1, 1, 1, 1, 1, 2, 1, 1, 1, 1, 1, 1, 1, 2, 1]

/-- Row Ax of the cycle counts of the primary map, taken (30_encoding.md R179). -/
def cyclesRowA : List Nat := [1, 1, 1, 1, 1, 1, 2, 1, 1, 1, 1, 1, 1, 1, 2, 1]

/-- Row Bx of the cycle counts of the primary map, taken (30_encoding.md R179). -/
def cyclesRowB : List Nat := [1, 1, 1, 1, 1, 1, 2, 1, 1, 1, 1, 1, 1, 1, 2, 1]

/-- Row Cx of the cycle counts of the primary map, taken (30_encoding.md R179). -/
def cyclesRowC : List Nat := [5, 3, 4, 4, 6, 4, 2, 4, 5, 4, 4, 2, 6, 6, 2, 4]

/-- Row Dx of the cycle counts of the primary map, taken (30_encoding.md R179). -/
def cyclesRowD : List Nat := [5, 3, 4, 1, 6, 4, 2, 4, 5, 4, 4, 1, 6, 1, 2, 4]

/-- Row Ex of the cycle counts of the primary map, taken (30_encoding.md R179). -/
def cyclesRowE : List Nat := [3, 3, 2, 1, 1, 4, 2, 4, 4, 1, 4, 1, 1, 1, 2, 4]

/-- Row Fx of the cycle counts of the primary map, taken (30_encoding.md R179). -/
def cyclesRowF : List Nat := [3, 3, 2, 1, 1, 4, 2, 4, 3, 2, 4, 1, 1, 1, 2, 4]

/-- The cycle counts of the primary map; an undefined opcode has its fetch cycle only, the prefix the two fetches (the rest of a prefixed
instruction is `prefixedCycles`). -/
def cyclesMap : List (List Nat) :=
  [cyclesRow0, cyclesRow1, cyclesRow2, cyclesRow3, cyclesRow4, cyclesRow5, cyclesRow6, cyclesRow7, cyclesRow8, cyclesRow9,
   cyclesRowA, cyclesRowB, cyclesRowC, cyclesRowD, cyclesRowE, cyclesRowF]

/-- The cycles an opcode does not use when its condition fails: 1 for `JR cc` and `JP cc`, 3 for `CALL cc` and `RET cc`, by the fields
x and z of the opcode (30_encoding.md R172, R177, R178; 70_reset_and_hazards.md R520). -/
def untakenCycles (op f : Byte) : Nat :=
  let o := op.toNat
  let x := o / 64
  let y := o / 8 % 8
  let z := o % 8
  if x = 0 ∧ z = 0 ∧ 4 ≤ y then (if condHolds (condOf (y - 4)) f then 0 else 1)
  else if x = 3 ∧ y < 4 then
    if z = 0 then (if condHolds (condOf y) f then 0 else 3)
    else if z = 2 then (if condHolds (condOf y) f then 0 else 1)
    else if z = 4 then (if condHolds (condOf y) f then 0 else 3)
    else 0
  else 0

/-- The machine cycles of the instruction that begins with an opcode, under the flags F. -/
def primaryCycles (op f : Byte) : Nat := (mapEntry cyclesMap op).getD 1 - untakenCycles op f

/-- The machine cycles of a prefixed instruction, prefix included: 2 on a register, 3 for `BIT b,(HL)`, 4 for the other `(HL)` forms
(43_rotate_shift_bit.md R310). -/
def prefixedCycles (op2 : Byte) : Nat :=
  if op2.toNat % 8 = 6 then (if op2.toNat / 64 = 1 then 3 else 4) else 2

end Sys2Proof.Machine
end

