-- ==== Sys2Proof/Machine/Ops.lean ====
section
/-! DEFINITION. The shared operations of the core: its bus accesses through the scheduling queue, fetching, the stack, taking an interrupt and
returning from one, the frozen fault, the boundary's decision, and placing code in memory. -/

namespace Sys2Proof.Machine

/-! ### Bus accesses (20_memory.md R120 to R125) -/

/-- Schedule an access k machine cycles from now (20_memory.md R120, R125). -/
def State.schedule (k : Nat) (a : Word) (d : BusDir) (s : State) : State :=
  { s with sched := { s.sched with queue := s.sched.queue ++ [{ cycle := s.sched.mcycle + k, addr := a, dir := d }] } }

/-- Service one access: a read delivers its byte, a write takes its own to the router; a fatal condition of the cartridge is marked
(20_memory.md R121, R122, R168). -/
def State.perform (o : BusOp) (s : State) : State :=
  match o.dir with
  | .read => State.markFatal (s.readFatal o.addr) { s with sched := { s.sched with latch := s.routerRead o.addr } }
  | .write v => s.routerWrite o.addr v

/-- Service several accesses in the order they were scheduled. -/
def performAll : List BusOp → State → State
  | [], s => s
  | o :: os, s => performAll os (s.perform o)

/-- Drain and execute all records whose tagged cycle equals the current machine cycle (20_memory.md R120). -/
def State.service (s : State) : State :=
  performAll (s.sched.queue.filter (fun o => o.cycle == s.sched.mcycle))
    { s with sched := { s.sched with queue := s.sched.queue.filter (fun o => o.cycle != s.sched.mcycle) } }

/-- `MemRead(a, 1)` at the next offset; the byte is in `latch`. -/
def State.readNext (a : Word) (s : State) : State := (s.schedule 1 a .read).nextCycle.service

/-- `MemWrite(a, 1, v)` at the next offset. -/
def State.writeNext (a : Word) (v : Byte) (s : State) : State := (s.schedule 1 a (.write v)).nextCycle.service

/-- An `internal` offset: a machine cycle with no bus access (20_memory.md R120). -/
def State.internal (s : State) : State := s.nextCycle

/-- The byte of the read last serviced. -/
def State.latch (s : State) : Byte := s.sched.latch

/-- Set the number of machine cycles still to run after this one (10_state.md R57). -/
def State.setRemaining (n : Nat) (s : State) : State := { s with sched := { s.sched with remaining := n } }

/-! ### Fetching -/

/-- PC after an opcode fetch: "if `haltBug = 1`, the opcode fetch at offset 0 ... does not advance PC, and `haltBug <- 0`" (60_exceptions.md R420). -/
def Cpu.opcodeFetched (p : Cpu) : Cpu := { p with pc := if p.haltBug then p.pc else p.pc + 1, haltBug := false }

/-- The opcode fetch at offset 0 (00_scope.md R20; 60_exceptions.md R400, R420); `remaining` is set from the cycle count of what starts. -/
def State.fetchOpcode (s : State) : State :=
  let s1 := (s.schedule 0 s.cpu.pc .read).service
  let s2 := s1.mapCpu Cpu.opcodeFetched
  { s2 with
    sched := { s2.sched with instrAddr := s.cpu.pc, remaining := primaryCycles s2.latch s2.cpu.f - 1 } }

/-- `Fetch()` of a later byte (00_scope.md R20): it always advances PC (60_exceptions.md R420). -/
def State.fetchNext (s : State) : State :=
  let s1 := s.readNext s.cpu.pc
  s1.setPc (s1.cpu.pc + 1)

/-- Fetch n more bytes. -/
def fetchMore : Nat → State → List Byte × State
  | 0, s => ([], s)
  | n + 1, s =>
    let s1 := s.fetchNext
    let r := fetchMore n s1
    (s1.latch :: r.1, r.2)

/-- After the second byte of a prefixed instruction: the cycles it still takes (45_system.md R385). -/
def State.prefixedRemaining (s : State) : State := s.setRemaining (prefixedCycles s.latch - 2)

/-- Fetch the bytes of an instruction, each in its own machine cycle (30_encoding.md R171; 20_memory.md R124). -/
def State.fetchInstr (s : State) : List Byte × State :=
  let s1 := s.fetchOpcode
  let op := s1.latch
  let r := fetchMore (fetchedBytes op - 1) s1
  (op :: r.1, if op = 0xCB then r.2.prefixedRemaining else r.2)

/-! ### The stack (10_state.md R49; 44_control.md R361) -/

/-- Push a word in the next two offsets: the high byte at SP - 1, then the low byte at SP - 2. -/
def State.pushWord (w : Word) (s : State) : State :=
  let s1 := s.setSp (s.cpu.sp - 1)
  let s2 := s1.writeNext s1.cpu.sp (hi w)
  let s3 := s2.setSp (s2.cpu.sp - 1)
  s3.writeNext s3.cpu.sp (lo w)

/-- Pop a word in the next two offsets: the low byte at SP, then the high byte at SP + 1. -/
def State.popWord (s : State) : Word × State :=
  let s1 := s.readNext s.cpu.sp
  let l := s1.latch
  let s2 := s1.setSp (s1.cpu.sp + 1)
  let s3 := s2.readNext s2.cpu.sp
  (pair s3.latch l, s3.setSp (s3.cpu.sp + 1))

/-! ### Interrupts (60_exceptions.md R410 to R414, R430) and the frozen fault (R426) -/

/-- `pending`: `IE & IF & 0x1F` (10_state.md R61). -/
def State.pending (s : State) : BitVec 5 := s.irq.flags &&& BitVec.ofNat 5 s.irq.enable.toNat

/-- The lowest-numbered set bit (60_exceptions.md R412). -/
def lowestLine (p : BitVec 5) : Option Line :=
  if p.getLsbD 0 then some .vblank
  else if p.getLsbD 1 then some .stat
  else if p.getLsbD 2 then some .timer
  else if p.getLsbD 3 then some .serial
  else if p.getLsbD 4 then some .joypad
  else none

/-- The vector of a line: 0x0040 + 8 k (60_exceptions.md R411). -/
def Line.vector (k : Line) : Word := BitVec.ofNat 16 (0x40 + 8 * k.index)

/-- What a dispatch does at offset 0: the line's IF bit, IME and the EI delay are cleared, and the halt bug (60_exceptions.md R410, R421). -/
def State.acknowledge (k : Line) (s : State) : State :=
  { s with
    cpu := { s.cpu with ime := false, eiDelay := 0, haltBug := false }
    irq := { s.irq with flags := s.irq.flags &&& ~~~(BitVec.ofNat 5 (2 ^ k.index)) }
    sched := { s.sched with remaining := 4 } }

/-- The return address a dispatch pushes: PC, or PC - 1 where the halt bug is pending (60_exceptions.md R410, R421). -/
def State.dispatchReturn (s : State) : Word := if s.cpu.haltBug then s.cpu.pc - 1 else s.cpu.pc

/-- TAKING AN INTERRUPT (60_exceptions.md R410), in the machine cycle of offset 0: acknowledge, an internal offset, push the return
address, an internal offset, jump to the vector. -/
def State.takeInterrupt (k : Line) (s : State) : State :=
  (((s.acknowledge k).internal.pushWord s.dispatchReturn).internal).setPc k.vector

/-- Pop the return address and jump to it: the effect RET, RET cc and RETI share (44_control.md R358). -/
def State.returnNow (s : State) : State :=
  let r := s.popWord
  r.2.internal.setPc r.1

/-- THE RETURN FROM AN INTERRUPT: RETI's effect, IME set at once and the EI delay cancelled (44_control.md R360). -/
def State.returnFromInterrupt (s : State) : State :=
  s.returnNow.mapCpu (fun p => { p with ime := true, eiDelay := 0 })

/-- `raise Frozen({opcode, addr})` (60_exceptions.md R426; 45_system.md R386). -/
def State.raiseFrozen (op : Byte) (s : State) : State :=
  s.mapCpu (fun p => { p with frozen := some { opcode := op, addr := s.sched.instrAddr } })

/-! ### The boundary (60_exceptions.md R400 to R421, R428) -/

/-- What a boundary starts (60_exceptions.md R400). -/
inductive Start where
  | nothing
  | idle
  | dispatch (k : Line)
  | instruction
  deriving DecidableEq, Repr

/-- The EI delay of a boundary: decrement, and IME becomes 1 on reaching 0 (60_exceptions.md R405). -/
def Cpu.eiTick (p : Cpu) : Cpu :=
  if p.eiDelay = 0 then p
  else { p with eiDelay := p.eiDelay - 1, ime := p.ime || p.eiDelay == 1 }

/-- The boundary procedure's decision, and the state in which it starts (60_exceptions.md R400, R428). -/
def State.boundary (s : State) : Start × State :=
  if s.cpu.frozen ≠ none then (.nothing, s)
  else
    let s1 := s.mapCpu Cpu.eiTick
    if s1.cpu.stopped then (.idle, s1)
    else if s1.cpu.halted ∧ s1.pending = 0 then (.idle, s1)
    else
      let s2 := s1.mapCpu (fun p => { p with halted := false })
      if s2.cpu.ime then
        match lowestLine s2.pending with
        | some k => (.dispatch k, s2)
        | none => (.instruction, s2)
      else (.instruction, s2)

/-! ### Placing code -/

/-- Where code can be placed for the fetch at PC: in the test cartridge's ROM, or in work RAM bank 0; otherwise PC moves to 0xC000. -/
def State.codeAddress (s : State) : Word :=
  let n := s.cpu.pc.toNat
  if s.cart.kind = .test ∧ n + 2 < 0x8000 then s.cpu.pc
  else if 0xC000 ≤ n ∧ n + 2 < 0xD000 then s.cpu.pc
  else 0xC000

/-- Store bytes from an address up: in the cartridge image below 0x8000 (a program is loaded from outside), in RAM elsewhere. -/
def placeBytes : List Byte → Nat → State → State
  | [], _, s => s
  | v :: vs, n, s =>
    placeBytes vs (n + 1)
      (if n < 0x8000 then { s with cart := { s.cart with image := Memory.set Config.imageBlank s.cart.image n v } }
       else s.setRam n v)

/-- A core that will fetch at its next boundary: running, no interrupt, no halt bug, no mark. -/
def State.readyToFetch (s : State) : State :=
  { s with
    cpu := { s.cpu with halted := false, stopped := false, frozen := none, haltBug := false, ime := false, eiDelay := 0 }
    refused := none
    fatal := none }

/-- Place code where the next boundary fetches. -/
def State.placeCode (bytes : List Byte) (s : State) : State :=
  let a := s.codeAddress
  placeBytes bytes a.toNat (s.readyToFetch.setPc a)

end Sys2Proof.Machine
end

