-- ==== Sys2Proof/Machine/Alu16.lean ====
section
/-! DEFINITION. 16-bit arithmetic (42_alu16.md R290 to R295): the shared forms, then one meaning per instruction. -/

namespace Sys2Proof.Machine

/-- `ADD HL, rr` (42_alu16.md R291). -/
def State.addHl (q : Pair) (s : State) : State :=
  let s1 := s.internal
  let x := addWord s1.hl (s1.cpu.pairReg q) s1.cpu.f
  (s1.setPair .hl x.value).setFlags x.flags

/-- `INC rr` (42_alu16.md R292). -/
def State.incPair (q : Pair) (s : State) : State :=
  let s1 := s.internal
  s1.setPair q (s1.cpu.pairReg q + 1)

/-- `DEC rr` (42_alu16.md R293). -/
def State.decPair (q : Pair) (s : State) : State :=
  let s1 := s.internal
  s1.setPair q (s1.cpu.pairReg q - 1)

/-- `ADD SP, e`: two internal offsets (42_alu16.md R294). -/
def State.addSp (e : Byte) (s : State) : State :=
  let s1 := s.internal.internal
  let x := addSigned s1.cpu.sp e
  (s1.setSp x.value).setFlags x.flags

/-- `LD HL, SP+e` (42_alu16.md R295). -/
def State.loadHlSp (e : Byte) (s : State) : State :=
  let s1 := s.internal
  let x := addSigned s1.cpu.sp e
  (s1.setPair .hl x.value).setFlags x.flags

/-! ### The meanings -/

/-- R292, 0x03: `INC BC`. -/
def execIncBc (s : State) : Result := .next (s.incPair .bc)

/-- R291, 0x09: `ADD HL,BC`. -/
def execAddHlBc (s : State) : Result := .next (s.addHl .bc)

/-- R293, 0x0B: `DEC BC`. -/
def execDecBc (s : State) : Result := .next (s.decPair .bc)

/-- R292, 0x13: `INC DE`. -/
def execIncDe (s : State) : Result := .next (s.incPair .de)

/-- R291, 0x19: `ADD HL,DE`. -/
def execAddHlDe (s : State) : Result := .next (s.addHl .de)

/-- R293, 0x1B: `DEC DE`. -/
def execDecDe (s : State) : Result := .next (s.decPair .de)

/-- R292, 0x23: `INC HL`. -/
def execIncHl (s : State) : Result := .next (s.incPair .hl)

/-- R291, 0x29: `ADD HL,HL`. -/
def execAddHlHl (s : State) : Result := .next (s.addHl .hl)

/-- R293, 0x2B: `DEC HL`. -/
def execDecHl (s : State) : Result := .next (s.decPair .hl)

/-- R292, 0x33: `INC SP`. -/
def execIncSp (s : State) : Result := .next (s.incPair .sp)

/-- R291, 0x39: `ADD HL,SP`. -/
def execAddHlSp (s : State) : Result := .next (s.addHl .sp)

/-- R293, 0x3B: `DEC SP`. -/
def execDecSp (s : State) : Result := .next (s.decPair .sp)

/-- R294, 0xE8: `ADD SP,e`. -/
def execAddSpE (e : Byte) (s : State) : Result := .next (s.addSp e)

/-- R295, 0xF8: `LD HL,SP+e`. -/
def execLdHlSpE (e : Byte) (s : State) : Result := .next (s.loadHlSp e)

end Sys2Proof.Machine
end

