-- ==== Sys2Proof/Machine/Alu8.lean ====
section
/-! DEFINITION. 8-bit arithmetic and logic (41_alu8.md R250 to R282): the shared forms, then one meaning per instruction. -/

namespace Sys2Proof.Machine

/-- `A <- A op r8[z]` with its flags (41_alu8.md R250). -/
def State.aluReg (op : AluOp) (r : Reg8) (s : State) : State := s.setAcc (aluByte op s.cpu.a (s.cpu.reg r) s.cpu.f)

/-- `A <- A op MemRead(HL, 1)` with its flags (41_alu8.md R250). -/
def State.aluMem (op : AluOp) (s : State) : State :=
  let s1 := s.readNext s.hl
  s1.setAcc (aluByte op s1.cpu.a s1.latch s1.cpu.f)

/-- `A <- A op n` with its flags (41_alu8.md R250). -/
def State.aluImm (op : AluOp) (n : Byte) (s : State) : State := s.setAcc (aluByte op s.cpu.a n s.cpu.f)

/-- INC of a register (41_alu8.md R275). -/
def State.incReg (r : Reg8) (s : State) : State :=
  let x := incByte (s.cpu.reg r) s.cpu.f
  (s.setReg r x.value).setFlags x.flags

/-- DEC of a register (41_alu8.md R277). -/
def State.decReg (r : Reg8) (s : State) : State :=
  let x := decByte (s.cpu.reg r) s.cpu.f
  (s.setReg r x.value).setFlags x.flags

/-- INC of the byte at HL: a read, then a write in the next machine cycle (41_alu8.md R276). -/
def State.incMem (s : State) : State :=
  let s1 := s.readNext s.hl
  let x := incByte s1.latch s1.cpu.f
  (s1.setFlags x.flags).writeNext s1.hl x.value

/-- DEC of the byte at HL: a read, then a write in the next machine cycle (41_alu8.md R278). -/
def State.decMem (s : State) : State :=
  let s1 := s.readNext s.hl
  let x := decByte s1.latch s1.cpu.f
  (s1.setFlags x.flags).writeNext s1.hl x.value

/-- DAA (41_alu8.md R279). -/
def State.decimalAdjust (s : State) : State := s.setAcc (daaByte s.cpu.a s.cpu.f)

/-- CPL (41_alu8.md R280). -/
def State.complementAcc (s : State) : State := s.setAcc (cplByte s.cpu.a s.cpu.f)

/-- SCF (41_alu8.md R281). -/
def State.setCarry (s : State) : State := s.setFlags (scfFlags s.cpu.f)

/-- CCF (41_alu8.md R282). -/
def State.complementCarry (s : State) : State := s.setFlags (ccfFlags s.cpu.f)

/-! ### The meanings -/

/-- R275, 0x04: `INC B`. -/
def execIncB (s : State) : Result := .next (s.incReg .b)

/-- R277, 0x05: `DEC B`. -/
def execDecB (s : State) : Result := .next (s.decReg .b)

/-- R275, 0x0C: `INC C`. -/
def execIncC (s : State) : Result := .next (s.incReg .c)

/-- R277, 0x0D: `DEC C`. -/
def execDecC (s : State) : Result := .next (s.decReg .c)

/-- R275, 0x14: `INC D`. -/
def execIncD (s : State) : Result := .next (s.incReg .d)

/-- R277, 0x15: `DEC D`. -/
def execDecD (s : State) : Result := .next (s.decReg .d)

/-- R275, 0x1C: `INC E`. -/
def execIncE (s : State) : Result := .next (s.incReg .e)

/-- R277, 0x1D: `DEC E`. -/
def execDecE (s : State) : Result := .next (s.decReg .e)

/-- R275, 0x24: `INC H`. -/
def execIncH (s : State) : Result := .next (s.incReg .h)

/-- R277, 0x25: `DEC H`. -/
def execDecH (s : State) : Result := .next (s.decReg .h)

/-- R279, 0x27: `DAA`. -/
def execDaa (s : State) : Result := .next (s.decimalAdjust)

/-- R275, 0x2C: `INC L`. -/
def execIncL (s : State) : Result := .next (s.incReg .l)

/-- R277, 0x2D: `DEC L`. -/
def execDecL (s : State) : Result := .next (s.decReg .l)

/-- R280, 0x2F: `CPL`. -/
def execCpl (s : State) : Result := .next (s.complementAcc)

/-- R276, 0x34: `INC (HL)`. -/
def execIncMemHl (s : State) : Result := .next (s.incMem)

/-- R278, 0x35: `DEC (HL)`. -/
def execDecMemHl (s : State) : Result := .next (s.decMem)

/-- R281, 0x37: `SCF`. -/
def execScf (s : State) : Result := .next (s.setCarry)

/-- R275, 0x3C: `INC A`. -/
def execIncA (s : State) : Result := .next (s.incReg .a)

/-- R277, 0x3D: `DEC A`. -/
def execDecA (s : State) : Result := .next (s.decReg .a)

/-- R282, 0x3F: `CCF`. -/
def execCcf (s : State) : Result := .next (s.complementCarry)

/-- R251, 0x80: `ADD A,B`. -/
def execAddAB (s : State) : Result := .next (s.aluReg .add .b)

/-- R251, 0x81: `ADD A,C`. -/
def execAddAC (s : State) : Result := .next (s.aluReg .add .c)

/-- R251, 0x82: `ADD A,D`. -/
def execAddAD (s : State) : Result := .next (s.aluReg .add .d)

/-- R251, 0x83: `ADD A,E`. -/
def execAddAE (s : State) : Result := .next (s.aluReg .add .e)

/-- R251, 0x84: `ADD A,H`. -/
def execAddAH (s : State) : Result := .next (s.aluReg .add .h)

/-- R251, 0x85: `ADD A,L`. -/
def execAddAL (s : State) : Result := .next (s.aluReg .add .l)

/-- R252, 0x86: `ADD A,(HL)`. -/
def execAddAMemHl (s : State) : Result := .next (s.aluMem .add)

/-- R251, 0x87: `ADD A,A`. -/
def execAddAA (s : State) : Result := .next (s.aluReg .add .a)

/-- R254, 0x88: `ADC A,B`. -/
def execAdcAB (s : State) : Result := .next (s.aluReg .adc .b)

/-- R254, 0x89: `ADC A,C`. -/
def execAdcAC (s : State) : Result := .next (s.aluReg .adc .c)

/-- R254, 0x8A: `ADC A,D`. -/
def execAdcAD (s : State) : Result := .next (s.aluReg .adc .d)

/-- R254, 0x8B: `ADC A,E`. -/
def execAdcAE (s : State) : Result := .next (s.aluReg .adc .e)

/-- R254, 0x8C: `ADC A,H`. -/
def execAdcAH (s : State) : Result := .next (s.aluReg .adc .h)

/-- R254, 0x8D: `ADC A,L`. -/
def execAdcAL (s : State) : Result := .next (s.aluReg .adc .l)

/-- R255, 0x8E: `ADC A,(HL)`. -/
def execAdcAMemHl (s : State) : Result := .next (s.aluMem .adc)

/-- R254, 0x8F: `ADC A,A`. -/
def execAdcAA (s : State) : Result := .next (s.aluReg .adc .a)

/-- R257, 0x90: `SUB B`. -/
def execSubB (s : State) : Result := .next (s.aluReg .sub .b)

/-- R257, 0x91: `SUB C`. -/
def execSubC (s : State) : Result := .next (s.aluReg .sub .c)

/-- R257, 0x92: `SUB D`. -/
def execSubD (s : State) : Result := .next (s.aluReg .sub .d)

/-- R257, 0x93: `SUB E`. -/
def execSubE (s : State) : Result := .next (s.aluReg .sub .e)

/-- R257, 0x94: `SUB H`. -/
def execSubH (s : State) : Result := .next (s.aluReg .sub .h)

/-- R257, 0x95: `SUB L`. -/
def execSubL (s : State) : Result := .next (s.aluReg .sub .l)

/-- R258, 0x96: `SUB (HL)`. -/
def execSubMemHl (s : State) : Result := .next (s.aluMem .sub)

/-- R257, 0x97: `SUB A`. -/
def execSubA (s : State) : Result := .next (s.aluReg .sub .a)

/-- R260, 0x98: `SBC A,B`. -/
def execSbcAB (s : State) : Result := .next (s.aluReg .sbc .b)

/-- R260, 0x99: `SBC A,C`. -/
def execSbcAC (s : State) : Result := .next (s.aluReg .sbc .c)

/-- R260, 0x9A: `SBC A,D`. -/
def execSbcAD (s : State) : Result := .next (s.aluReg .sbc .d)

/-- R260, 0x9B: `SBC A,E`. -/
def execSbcAE (s : State) : Result := .next (s.aluReg .sbc .e)

/-- R260, 0x9C: `SBC A,H`. -/
def execSbcAH (s : State) : Result := .next (s.aluReg .sbc .h)

/-- R260, 0x9D: `SBC A,L`. -/
def execSbcAL (s : State) : Result := .next (s.aluReg .sbc .l)

/-- R261, 0x9E: `SBC A,(HL)`. -/
def execSbcAMemHl (s : State) : Result := .next (s.aluMem .sbc)

/-- R260, 0x9F: `SBC A,A`. -/
def execSbcAA (s : State) : Result := .next (s.aluReg .sbc .a)

/-- R263, 0xA0: `AND B`. -/
def execAndB (s : State) : Result := .next (s.aluReg .and .b)

/-- R263, 0xA1: `AND C`. -/
def execAndC (s : State) : Result := .next (s.aluReg .and .c)

/-- R263, 0xA2: `AND D`. -/
def execAndD (s : State) : Result := .next (s.aluReg .and .d)

/-- R263, 0xA3: `AND E`. -/
def execAndE (s : State) : Result := .next (s.aluReg .and .e)

/-- R263, 0xA4: `AND H`. -/
def execAndH (s : State) : Result := .next (s.aluReg .and .h)

/-- R263, 0xA5: `AND L`. -/
def execAndL (s : State) : Result := .next (s.aluReg .and .l)

/-- R264, 0xA6: `AND (HL)`. -/
def execAndMemHl (s : State) : Result := .next (s.aluMem .and)

/-- R263, 0xA7: `AND A`. -/
def execAndA (s : State) : Result := .next (s.aluReg .and .a)

/-- R266, 0xA8: `XOR B`. -/
def execXorB (s : State) : Result := .next (s.aluReg .xor .b)

/-- R266, 0xA9: `XOR C`. -/
def execXorC (s : State) : Result := .next (s.aluReg .xor .c)

/-- R266, 0xAA: `XOR D`. -/
def execXorD (s : State) : Result := .next (s.aluReg .xor .d)

/-- R266, 0xAB: `XOR E`. -/
def execXorE (s : State) : Result := .next (s.aluReg .xor .e)

/-- R266, 0xAC: `XOR H`. -/
def execXorH (s : State) : Result := .next (s.aluReg .xor .h)

/-- R266, 0xAD: `XOR L`. -/
def execXorL (s : State) : Result := .next (s.aluReg .xor .l)

/-- R267, 0xAE: `XOR (HL)`. -/
def execXorMemHl (s : State) : Result := .next (s.aluMem .xor)

/-- R266, 0xAF: `XOR A`. -/
def execXorA (s : State) : Result := .next (s.aluReg .xor .a)

/-- R269, 0xB0: `OR B`. -/
def execOrB (s : State) : Result := .next (s.aluReg .or .b)

/-- R269, 0xB1: `OR C`. -/
def execOrC (s : State) : Result := .next (s.aluReg .or .c)

/-- R269, 0xB2: `OR D`. -/
def execOrD (s : State) : Result := .next (s.aluReg .or .d)

/-- R269, 0xB3: `OR E`. -/
def execOrE (s : State) : Result := .next (s.aluReg .or .e)

/-- R269, 0xB4: `OR H`. -/
def execOrH (s : State) : Result := .next (s.aluReg .or .h)

/-- R269, 0xB5: `OR L`. -/
def execOrL (s : State) : Result := .next (s.aluReg .or .l)

/-- R270, 0xB6: `OR (HL)`. -/
def execOrMemHl (s : State) : Result := .next (s.aluMem .or)

/-- R269, 0xB7: `OR A`. -/
def execOrA (s : State) : Result := .next (s.aluReg .or .a)

/-- R272, 0xB8: `CP B`. -/
def execCpB (s : State) : Result := .next (s.aluReg .cp .b)

/-- R272, 0xB9: `CP C`. -/
def execCpC (s : State) : Result := .next (s.aluReg .cp .c)

/-- R272, 0xBA: `CP D`. -/
def execCpD (s : State) : Result := .next (s.aluReg .cp .d)

/-- R272, 0xBB: `CP E`. -/
def execCpE (s : State) : Result := .next (s.aluReg .cp .e)

/-- R272, 0xBC: `CP H`. -/
def execCpH (s : State) : Result := .next (s.aluReg .cp .h)

/-- R272, 0xBD: `CP L`. -/
def execCpL (s : State) : Result := .next (s.aluReg .cp .l)

/-- R273, 0xBE: `CP (HL)`. -/
def execCpMemHl (s : State) : Result := .next (s.aluMem .cp)

/-- R272, 0xBF: `CP A`. -/
def execCpA (s : State) : Result := .next (s.aluReg .cp .a)

/-- R253, 0xC6: `ADD A,n`. -/
def execAddAN (n : Byte) (s : State) : Result := .next (s.aluImm .add n)

/-- R256, 0xCE: `ADC A,n`. -/
def execAdcAN (n : Byte) (s : State) : Result := .next (s.aluImm .adc n)

/-- R259, 0xD6: `SUB n`. -/
def execSubN (n : Byte) (s : State) : Result := .next (s.aluImm .sub n)

/-- R262, 0xDE: `SBC A,n`. -/
def execSbcAN (n : Byte) (s : State) : Result := .next (s.aluImm .sbc n)

/-- R265, 0xE6: `AND n`. -/
def execAndN (n : Byte) (s : State) : Result := .next (s.aluImm .and n)

/-- R268, 0xEE: `XOR n`. -/
def execXorN (n : Byte) (s : State) : Result := .next (s.aluImm .xor n)

/-- R271, 0xF6: `OR n`. -/
def execOrN (n : Byte) (s : State) : Result := .next (s.aluImm .or n)

/-- R274, 0xFE: `CP n`. -/
def execCpN (n : Byte) (s : State) : Result := .next (s.aluImm .cp n)

end Sys2Proof.Machine
end

