-- ==== Sys2Proof/Machine/Control.lean ====
section
/-! DEFINITION. Control transfers (44_control.md R350 to R362): the shared forms, then one meaning per instruction. PC already points after
the instruction. -/

namespace Sys2Proof.Machine

/-- An internal offset, then `PC <- nn` (44_control.md R351). -/
def State.jump (nn : Word) (s : State) : State := s.internal.setPc nn

/-- `JP cc, nn` (44_control.md R352). -/
def State.jumpIf (k : Cond) (nn : Word) (s : State) : State := if condHolds k s.cpu.f then s.jump nn else s

/-- An internal offset, then `PC <- PC + sext_16(e)` (44_control.md R354). -/
def State.jumpRelative (e : Byte) (s : State) : State :=
  let s1 := s.internal
  s1.setPc (s1.cpu.pc + sext e)

/-- `JR cc, e` (44_control.md R355). -/
def State.jumpRelativeIf (k : Cond) (e : Byte) (s : State) : State := if condHolds k s.cpu.f then s.jumpRelative e else s

/-- An internal offset, push PC, `PC <- nn` (44_control.md R356, R362). -/
def State.call (nn : Word) (s : State) : State :=
  let s1 := s.internal
  (s1.pushWord s1.cpu.pc).setPc nn

/-- `CALL cc, nn` (44_control.md R357). -/
def State.callIf (k : Cond) (nn : Word) (s : State) : State := if condHolds k s.cpu.f then s.call nn else s

/-- `RET cc`: the internal offset of the condition "taken or not" (44_control.md R359). -/
def State.returnIf (k : Cond) (s : State) : State :=
  let s1 := s.internal
  if condHolds k s1.cpu.f then s1.returnNow else s1

/-- `RST t`, t = 8 y (44_control.md R362). -/
def State.restart (y : Oct) (s : State) : State := s.call (BitVec.ofNat 16 (8 * y.toNat))

/-! ### The meanings -/

/-- R354, 0x18: `JR e`. -/
def execJrE (e : Byte) (s : State) : Result := .next (s.jumpRelative e)

/-- R355, 0x20: `JR NZ,e`. -/
def execJrNzE (e : Byte) (s : State) : Result := .next (s.jumpRelativeIf .nz e)

/-- R355, 0x28: `JR Z,e`. -/
def execJrZE (e : Byte) (s : State) : Result := .next (s.jumpRelativeIf .z e)

/-- R355, 0x30: `JR NC,e`. -/
def execJrNcE (e : Byte) (s : State) : Result := .next (s.jumpRelativeIf .nc e)

/-- R355, 0x38: `JR C,e`. -/
def execJrCE (e : Byte) (s : State) : Result := .next (s.jumpRelativeIf .c e)

/-- R359, 0xC0: `RET NZ`. -/
def execRetNz (s : State) : Result := .next (s.returnIf .nz)

/-- R352, 0xC2: `JP NZ,nn`. -/
def execJpNzNn (nn : Word) (s : State) : Result := .next (s.jumpIf .nz nn)

/-- R351, 0xC3: `JP nn`. -/
def execJpNn (nn : Word) (s : State) : Result := .next (s.jump nn)

/-- R357, 0xC4: `CALL NZ,nn`. -/
def execCallNzNn (nn : Word) (s : State) : Result := .next (s.callIf .nz nn)

/-- R362, 0xC7: `RST 00h`. -/
def execRst00 (s : State) : Result := .next (s.restart .y0)

/-- R359, 0xC8: `RET Z`. -/
def execRetZ (s : State) : Result := .next (s.returnIf .z)

/-- R358, 0xC9: `RET`. -/
def execRet (s : State) : Result := .next (s.returnNow)

/-- R352, 0xCA: `JP Z,nn`. -/
def execJpZNn (nn : Word) (s : State) : Result := .next (s.jumpIf .z nn)

/-- R357, 0xCC: `CALL Z,nn`. -/
def execCallZNn (nn : Word) (s : State) : Result := .next (s.callIf .z nn)

/-- R356, 0xCD: `CALL nn`. -/
def execCallNn (nn : Word) (s : State) : Result := .next (s.call nn)

/-- R362, 0xCF: `RST 08h`. -/
def execRst08 (s : State) : Result := .next (s.restart .y1)

/-- R359, 0xD0: `RET NC`. -/
def execRetNc (s : State) : Result := .next (s.returnIf .nc)

/-- R352, 0xD2: `JP NC,nn`. -/
def execJpNcNn (nn : Word) (s : State) : Result := .next (s.jumpIf .nc nn)

/-- R357, 0xD4: `CALL NC,nn`. -/
def execCallNcNn (nn : Word) (s : State) : Result := .next (s.callIf .nc nn)

/-- R362, 0xD7: `RST 10h`. -/
def execRst10 (s : State) : Result := .next (s.restart .y2)

/-- R359, 0xD8: `RET C`. -/
def execRetC (s : State) : Result := .next (s.returnIf .c)

/-- R360, 0xD9: `RETI`. -/
def execReti (s : State) : Result := .next (s.returnFromInterrupt)

/-- R352, 0xDA: `JP C,nn`. -/
def execJpCNn (nn : Word) (s : State) : Result := .next (s.jumpIf .c nn)

/-- R357, 0xDC: `CALL C,nn`. -/
def execCallCNn (nn : Word) (s : State) : Result := .next (s.callIf .c nn)

/-- R362, 0xDF: `RST 18h`. -/
def execRst18 (s : State) : Result := .next (s.restart .y3)

/-- R362, 0xE7: `RST 20h`. -/
def execRst20 (s : State) : Result := .next (s.restart .y4)

/-- R353, 0xE9: `JP HL`. -/
def execJpHl (s : State) : Result := .next (s.setPc s.hl)

/-- R362, 0xEF: `RST 28h`. -/
def execRst28 (s : State) : Result := .next (s.restart .y5)

/-- R362, 0xF7: `RST 30h`. -/
def execRst30 (s : State) : Result := .next (s.restart .y6)

/-- R362, 0xFF: `RST 38h`. -/
def execRst38 (s : State) : Result := .next (s.restart .y7)

end Sys2Proof.Machine
end

