-- ==== Sys2Proof/Machine/Loads.lean ====
section
/-! DEFINITION. The loads, stores and stack operations (40_loads.md R200 to R226): the shared forms, then one meaning per instruction. A
meaning runs in the machine cycle of the instruction's last fetched byte and does the offsets after it. -/

namespace Sys2Proof.Machine

/-- `r8[y] <- r8[z]` (40_loads.md R201). -/
def State.copyReg (dst r : Reg8) (s : State) : State := s.setReg dst (s.cpu.reg r)

/-- `r8[y] <- MemRead(HL, 1)` (40_loads.md R203). -/
def State.loadReg (dst : Reg8) (s : State) : State :=
  let s1 := s.readNext s.hl
  s1.setReg dst s1.latch

/-- `MemWrite(HL, 1, r8[z])` (40_loads.md R204). -/
def State.storeReg (r : Reg8) (s : State) : State := s.writeNext s.hl (s.cpu.reg r)

/-- `MemWrite(HL, 1, n)` (40_loads.md R205). -/
def State.storeImm (n : Byte) (s : State) : State := s.writeNext s.hl n

/-- `A <- MemRead(a, 1)` (40_loads.md R206, R207, R210, R212, R214). -/
def State.loadAcc (a : Word) (s : State) : State :=
  let s1 := s.readNext a
  s1.setReg .a s1.latch

/-- `MemWrite(a, 1, A)` (40_loads.md R208, R209, R211, R213, R215). -/
def State.storeAcc (a : Word) (s : State) : State := s.writeNext a s.cpu.a

/-- `A <- MemRead(HL, 1)`, then HL moves by d, wrapping (40_loads.md R216, R217). -/
def State.loadAccHl (d : Word) (s : State) : State :=
  let s1 := s.loadAcc s.hl
  s1.setPair .hl (s1.hl + d)

/-- `MemWrite(HL, 1, A)`, then HL moves by d, wrapping (40_loads.md R218, R219). -/
def State.storeAccHl (d : Word) (s : State) : State :=
  let s1 := s.storeAcc s.hl
  s1.setPair .hl (s1.hl + d)

/-- Store SP at a and a + 1, low byte first (40_loads.md R221). -/
def State.storeSp (a : Word) (s : State) : State :=
  let s1 := s.writeNext a (lo s.cpu.sp)
  s1.writeNext (a + 1) (hi s1.cpu.sp)

/-- An internal offset, then `SP <- HL` (40_loads.md R222). -/
def State.loadSpHl (s : State) : State :=
  let s1 := s.internal
  s1.setSp s1.hl

/-- An internal offset, then push a pair (40_loads.md R223, R224). -/
def State.pushPair (q : StackPair) (s : State) : State :=
  let s1 := s.internal
  s1.pushWord (s1.cpu.stackPair q)

/-- Pop a pair (40_loads.md R225, R226). -/
def State.popPair (q : StackPair) (s : State) : State :=
  let r := s.popWord
  r.2.mapCpu (Cpu.setStackPair q r.1)

/-! ### The meanings -/

/-- R220, 0x01: `LD BC,nn`. -/
def execLdBcNn (nn : Word) (s : State) : Result := .next (s.setPair .bc nn)

/-- R208, 0x02: `LD (BC),A`. -/
def execLdMemBcA (s : State) : Result := .next (s.storeAcc s.bc)

/-- R202, 0x06: `LD B,n`. -/
def execLdBN (n : Byte) (s : State) : Result := .next (s.setReg .b n)

/-- R221, 0x08: `LD (nn),SP`. -/
def execLdMemNnSp (nn : Word) (s : State) : Result := .next (s.storeSp nn)

/-- R206, 0x0A: `LD A,(BC)`. -/
def execLdAMemBc (s : State) : Result := .next (s.loadAcc s.bc)

/-- R202, 0x0E: `LD C,n`. -/
def execLdCN (n : Byte) (s : State) : Result := .next (s.setReg .c n)

/-- R220, 0x11: `LD DE,nn`. -/
def execLdDeNn (nn : Word) (s : State) : Result := .next (s.setPair .de nn)

/-- R209, 0x12: `LD (DE),A`. -/
def execLdMemDeA (s : State) : Result := .next (s.storeAcc s.de)

/-- R202, 0x16: `LD D,n`. -/
def execLdDN (n : Byte) (s : State) : Result := .next (s.setReg .d n)

/-- R207, 0x1A: `LD A,(DE)`. -/
def execLdAMemDe (s : State) : Result := .next (s.loadAcc s.de)

/-- R202, 0x1E: `LD E,n`. -/
def execLdEN (n : Byte) (s : State) : Result := .next (s.setReg .e n)

/-- R220, 0x21: `LD HL,nn`. -/
def execLdHlNn (nn : Word) (s : State) : Result := .next (s.setPair .hl nn)

/-- R218, 0x22: `LD (HL+),A`. -/
def execLdMemHlIncA (s : State) : Result := .next (s.storeAccHl 1)

/-- R202, 0x26: `LD H,n`. -/
def execLdHN (n : Byte) (s : State) : Result := .next (s.setReg .h n)

/-- R216, 0x2A: `LD A,(HL+)`. -/
def execLdAMemHlInc (s : State) : Result := .next (s.loadAccHl 1)

/-- R202, 0x2E: `LD L,n`. -/
def execLdLN (n : Byte) (s : State) : Result := .next (s.setReg .l n)

/-- R220, 0x31: `LD SP,nn`. -/
def execLdSpNn (nn : Word) (s : State) : Result := .next (s.setPair .sp nn)

/-- R219, 0x32: `LD (HL-),A`. -/
def execLdMemHlDecA (s : State) : Result := .next (s.storeAccHl (-1))

/-- R205, 0x36: `LD (HL),n`. -/
def execLdMemHlN (n : Byte) (s : State) : Result := .next (s.storeImm n)

/-- R217, 0x3A: `LD A,(HL-)`. -/
def execLdAMemHlDec (s : State) : Result := .next (s.loadAccHl (-1))

/-- R202, 0x3E: `LD A,n`. -/
def execLdAN (n : Byte) (s : State) : Result := .next (s.setReg .a n)

/-- R201, 0x40: `LD B,B`. -/
def execLdBB (s : State) : Result := .next (s.copyReg .b .b)

/-- R201, 0x41: `LD B,C`. -/
def execLdBC (s : State) : Result := .next (s.copyReg .b .c)

/-- R201, 0x42: `LD B,D`. -/
def execLdBD (s : State) : Result := .next (s.copyReg .b .d)

/-- R201, 0x43: `LD B,E`. -/
def execLdBE (s : State) : Result := .next (s.copyReg .b .e)

/-- R201, 0x44: `LD B,H`. -/
def execLdBH (s : State) : Result := .next (s.copyReg .b .h)

/-- R201, 0x45: `LD B,L`. -/
def execLdBL (s : State) : Result := .next (s.copyReg .b .l)

/-- R203, 0x46: `LD B,(HL)`. -/
def execLdBMemHl (s : State) : Result := .next (s.loadReg .b)

/-- R201, 0x47: `LD B,A`. -/
def execLdBA (s : State) : Result := .next (s.copyReg .b .a)

/-- R201, 0x48: `LD C,B`. -/
def execLdCB (s : State) : Result := .next (s.copyReg .c .b)

/-- R201, 0x49: `LD C,C`. -/
def execLdCC (s : State) : Result := .next (s.copyReg .c .c)

/-- R201, 0x4A: `LD C,D`. -/
def execLdCD (s : State) : Result := .next (s.copyReg .c .d)

/-- R201, 0x4B: `LD C,E`. -/
def execLdCE (s : State) : Result := .next (s.copyReg .c .e)

/-- R201, 0x4C: `LD C,H`. -/
def execLdCH (s : State) : Result := .next (s.copyReg .c .h)

/-- R201, 0x4D: `LD C,L`. -/
def execLdCL (s : State) : Result := .next (s.copyReg .c .l)

/-- R203, 0x4E: `LD C,(HL)`. -/
def execLdCMemHl (s : State) : Result := .next (s.loadReg .c)

/-- R201, 0x4F: `LD C,A`. -/
def execLdCA (s : State) : Result := .next (s.copyReg .c .a)

/-- R201, 0x50: `LD D,B`. -/
def execLdDB (s : State) : Result := .next (s.copyReg .d .b)

/-- R201, 0x51: `LD D,C`. -/
def execLdDC (s : State) : Result := .next (s.copyReg .d .c)

/-- R201, 0x52: `LD D,D`. -/
def execLdDD (s : State) : Result := .next (s.copyReg .d .d)

/-- R201, 0x53: `LD D,E`. -/
def execLdDE (s : State) : Result := .next (s.copyReg .d .e)

/-- R201, 0x54: `LD D,H`. -/
def execLdDH (s : State) : Result := .next (s.copyReg .d .h)

/-- R201, 0x55: `LD D,L`. -/
def execLdDL (s : State) : Result := .next (s.copyReg .d .l)

/-- R203, 0x56: `LD D,(HL)`. -/
def execLdDMemHl (s : State) : Result := .next (s.loadReg .d)

/-- R201, 0x57: `LD D,A`. -/
def execLdDA (s : State) : Result := .next (s.copyReg .d .a)

/-- R201, 0x58: `LD E,B`. -/
def execLdEB (s : State) : Result := .next (s.copyReg .e .b)

/-- R201, 0x59: `LD E,C`. -/
def execLdEC (s : State) : Result := .next (s.copyReg .e .c)

/-- R201, 0x5A: `LD E,D`. -/
def execLdED (s : State) : Result := .next (s.copyReg .e .d)

/-- R201, 0x5B: `LD E,E`. -/
def execLdEE (s : State) : Result := .next (s.copyReg .e .e)

/-- R201, 0x5C: `LD E,H`. -/
def execLdEH (s : State) : Result := .next (s.copyReg .e .h)

/-- R201, 0x5D: `LD E,L`. -/
def execLdEL (s : State) : Result := .next (s.copyReg .e .l)

/-- R203, 0x5E: `LD E,(HL)`. -/
def execLdEMemHl (s : State) : Result := .next (s.loadReg .e)

/-- R201, 0x5F: `LD E,A`. -/
def execLdEA (s : State) : Result := .next (s.copyReg .e .a)

/-- R201, 0x60: `LD H,B`. -/
def execLdHB (s : State) : Result := .next (s.copyReg .h .b)

/-- R201, 0x61: `LD H,C`. -/
def execLdHC (s : State) : Result := .next (s.copyReg .h .c)

/-- R201, 0x62: `LD H,D`. -/
def execLdHD (s : State) : Result := .next (s.copyReg .h .d)

/-- R201, 0x63: `LD H,E`. -/
def execLdHE (s : State) : Result := .next (s.copyReg .h .e)

/-- R201, 0x64: `LD H,H`. -/
def execLdHH (s : State) : Result := .next (s.copyReg .h .h)

/-- R201, 0x65: `LD H,L`. -/
def execLdHL (s : State) : Result := .next (s.copyReg .h .l)

/-- R203, 0x66: `LD H,(HL)`. -/
def execLdHMemHl (s : State) : Result := .next (s.loadReg .h)

/-- R201, 0x67: `LD H,A`. -/
def execLdHA (s : State) : Result := .next (s.copyReg .h .a)

/-- R201, 0x68: `LD L,B`. -/
def execLdLB (s : State) : Result := .next (s.copyReg .l .b)

/-- R201, 0x69: `LD L,C`. -/
def execLdLC (s : State) : Result := .next (s.copyReg .l .c)

/-- R201, 0x6A: `LD L,D`. -/
def execLdLD (s : State) : Result := .next (s.copyReg .l .d)

/-- R201, 0x6B: `LD L,E`. -/
def execLdLE (s : State) : Result := .next (s.copyReg .l .e)

/-- R201, 0x6C: `LD L,H`. -/
def execLdLH (s : State) : Result := .next (s.copyReg .l .h)

/-- R201, 0x6D: `LD L,L`. -/
def execLdLL (s : State) : Result := .next (s.copyReg .l .l)

/-- R203, 0x6E: `LD L,(HL)`. -/
def execLdLMemHl (s : State) : Result := .next (s.loadReg .l)

/-- R201, 0x6F: `LD L,A`. -/
def execLdLA (s : State) : Result := .next (s.copyReg .l .a)

/-- R204, 0x70: `LD (HL),B`. -/
def execLdMemHlB (s : State) : Result := .next (s.storeReg .b)

/-- R204, 0x71: `LD (HL),C`. -/
def execLdMemHlC (s : State) : Result := .next (s.storeReg .c)

/-- R204, 0x72: `LD (HL),D`. -/
def execLdMemHlD (s : State) : Result := .next (s.storeReg .d)

/-- R204, 0x73: `LD (HL),E`. -/
def execLdMemHlE (s : State) : Result := .next (s.storeReg .e)

/-- R204, 0x74: `LD (HL),H`. -/
def execLdMemHlH (s : State) : Result := .next (s.storeReg .h)

/-- R204, 0x75: `LD (HL),L`. -/
def execLdMemHlL (s : State) : Result := .next (s.storeReg .l)

/-- R204, 0x77: `LD (HL),A`. -/
def execLdMemHlA (s : State) : Result := .next (s.storeReg .a)

/-- R201, 0x78: `LD A,B`. -/
def execLdAB (s : State) : Result := .next (s.copyReg .a .b)

/-- R201, 0x79: `LD A,C`. -/
def execLdAC (s : State) : Result := .next (s.copyReg .a .c)

/-- R201, 0x7A: `LD A,D`. -/
def execLdAD (s : State) : Result := .next (s.copyReg .a .d)

/-- R201, 0x7B: `LD A,E`. -/
def execLdAE (s : State) : Result := .next (s.copyReg .a .e)

/-- R201, 0x7C: `LD A,H`. -/
def execLdAH (s : State) : Result := .next (s.copyReg .a .h)

/-- R201, 0x7D: `LD A,L`. -/
def execLdAL (s : State) : Result := .next (s.copyReg .a .l)

/-- R203, 0x7E: `LD A,(HL)`. -/
def execLdAMemHl (s : State) : Result := .next (s.loadReg .a)

/-- R201, 0x7F: `LD A,A`. -/
def execLdAA (s : State) : Result := .next (s.copyReg .a .a)

/-- R225, 0xC1: `POP BC`. -/
def execPopBc (s : State) : Result := .next (s.popPair .bc)

/-- R223, 0xC5: `PUSH BC`. -/
def execPushBc (s : State) : Result := .next (s.pushPair .bc)

/-- R225, 0xD1: `POP DE`. -/
def execPopDe (s : State) : Result := .next (s.popPair .de)

/-- R223, 0xD5: `PUSH DE`. -/
def execPushDe (s : State) : Result := .next (s.pushPair .de)

/-- R213, 0xE0: `LDH (n),A`. -/
def execLdhMemNA (n : Byte) (s : State) : Result := .next (s.storeAcc (highPage n))

/-- R225, 0xE1: `POP HL`. -/
def execPopHl (s : State) : Result := .next (s.popPair .hl)

/-- R215, 0xE2: `LDH (C),A`. -/
def execLdhMemCA (s : State) : Result := .next (s.storeAcc (highPage s.cpu.c))

/-- R223, 0xE5: `PUSH HL`. -/
def execPushHl (s : State) : Result := .next (s.pushPair .hl)

/-- R211, 0xEA: `LD (nn),A`. -/
def execLdMemNnA (nn : Word) (s : State) : Result := .next (s.storeAcc nn)

/-- R212, 0xF0: `LDH A,(n)`. -/
def execLdhAMemN (n : Byte) (s : State) : Result := .next (s.loadAcc (highPage n))

/-- R226, 0xF1: `POP AF`. -/
def execPopAf (s : State) : Result := .next (s.popPair .af)

/-- R214, 0xF2: `LDH A,(C)`. -/
def execLdhAMemC (s : State) : Result := .next (s.loadAcc (highPage s.cpu.c))

/-- R224, 0xF5: `PUSH AF`. -/
def execPushAf (s : State) : Result := .next (s.pushPair .af)

/-- R222, 0xF9: `LD SP,HL`. -/
def execLdSpHl (s : State) : Result := .next (s.loadSpHl)

/-- R210, 0xFA: `LD A,(nn)`. -/
def execLdAMemNn (nn : Word) (s : State) : Result := .next (s.loadAcc nn)

end Sys2Proof.Machine
end

