-- ==== Sys2Proof/Machine/Bit.lean ====
section
/-! DEFINITION. Bit test, reset and set (43_rotate_shift_bit.md R331 to R336): the shared forms, then one meaning per instruction. -/

namespace Sys2Proof.Machine

/-- `BIT b, r`: flags only (43_rotate_shift_bit.md R331). -/
def State.testBitReg (b : Oct) (r : Reg8) (s : State) : State := s.setFlags (bitFlags b (s.cpu.reg r) s.cpu.f)

/-- `BIT b, (HL)`: a read, no write (43_rotate_shift_bit.md R332). -/
def State.testBitMem (b : Oct) (s : State) : State :=
  let s1 := s.readNext s.hl
  s1.setFlags (bitFlags b s1.latch s1.cpu.f)

/-- `RES b, r` (43_rotate_shift_bit.md R333). -/
def State.resBitReg (b : Oct) (r : Reg8) (s : State) : State := s.setReg r (resByte b (s.cpu.reg r))

/-- `RES b, (HL)`: "the write happens even when the value does not change" (43_rotate_shift_bit.md R334). -/
def State.resBitMem (b : Oct) (s : State) : State :=
  let s1 := s.readNext s.hl
  s1.writeNext s1.hl (resByte b s1.latch)

/-- `SET b, r` (43_rotate_shift_bit.md R335). -/
def State.setBitReg (b : Oct) (r : Reg8) (s : State) : State := s.setReg r (setByte b (s.cpu.reg r))

/-- `SET b, (HL)` (43_rotate_shift_bit.md R336). -/
def State.setBitMem (b : Oct) (s : State) : State :=
  let s1 := s.readNext s.hl
  s1.writeNext s1.hl (setByte b s1.latch)

/-! ### The meanings -/

/-- R331, 0xCB 0x40: `BIT 0,B`. -/
def execBit0B (s : State) : Result := .next (s.testBitReg .y0 .b)

/-- R331, 0xCB 0x41: `BIT 0,C`. -/
def execBit0C (s : State) : Result := .next (s.testBitReg .y0 .c)

/-- R331, 0xCB 0x42: `BIT 0,D`. -/
def execBit0D (s : State) : Result := .next (s.testBitReg .y0 .d)

/-- R331, 0xCB 0x43: `BIT 0,E`. -/
def execBit0E (s : State) : Result := .next (s.testBitReg .y0 .e)

/-- R331, 0xCB 0x44: `BIT 0,H`. -/
def execBit0H (s : State) : Result := .next (s.testBitReg .y0 .h)

/-- R331, 0xCB 0x45: `BIT 0,L`. -/
def execBit0L (s : State) : Result := .next (s.testBitReg .y0 .l)

/-- R332, 0xCB 0x46: `BIT 0,(HL)`. -/
def execBit0MemHl (s : State) : Result := .next (s.testBitMem .y0)

/-- R331, 0xCB 0x47: `BIT 0,A`. -/
def execBit0A (s : State) : Result := .next (s.testBitReg .y0 .a)

/-- R331, 0xCB 0x48: `BIT 1,B`. -/
def execBit1B (s : State) : Result := .next (s.testBitReg .y1 .b)

/-- R331, 0xCB 0x49: `BIT 1,C`. -/
def execBit1C (s : State) : Result := .next (s.testBitReg .y1 .c)

/-- R331, 0xCB 0x4A: `BIT 1,D`. -/
def execBit1D (s : State) : Result := .next (s.testBitReg .y1 .d)

/-- R331, 0xCB 0x4B: `BIT 1,E`. -/
def execBit1E (s : State) : Result := .next (s.testBitReg .y1 .e)

/-- R331, 0xCB 0x4C: `BIT 1,H`. -/
def execBit1H (s : State) : Result := .next (s.testBitReg .y1 .h)

/-- R331, 0xCB 0x4D: `BIT 1,L`. -/
def execBit1L (s : State) : Result := .next (s.testBitReg .y1 .l)

/-- R332, 0xCB 0x4E: `BIT 1,(HL)`. -/
def execBit1MemHl (s : State) : Result := .next (s.testBitMem .y1)

/-- R331, 0xCB 0x4F: `BIT 1,A`. -/
def execBit1A (s : State) : Result := .next (s.testBitReg .y1 .a)

/-- R331, 0xCB 0x50: `BIT 2,B`. -/
def execBit2B (s : State) : Result := .next (s.testBitReg .y2 .b)

/-- R331, 0xCB 0x51: `BIT 2,C`. -/
def execBit2C (s : State) : Result := .next (s.testBitReg .y2 .c)

/-- R331, 0xCB 0x52: `BIT 2,D`. -/
def execBit2D (s : State) : Result := .next (s.testBitReg .y2 .d)

/-- R331, 0xCB 0x53: `BIT 2,E`. -/
def execBit2E (s : State) : Result := .next (s.testBitReg .y2 .e)

/-- R331, 0xCB 0x54: `BIT 2,H`. -/
def execBit2H (s : State) : Result := .next (s.testBitReg .y2 .h)

/-- R331, 0xCB 0x55: `BIT 2,L`. -/
def execBit2L (s : State) : Result := .next (s.testBitReg .y2 .l)

/-- R332, 0xCB 0x56: `BIT 2,(HL)`. -/
def execBit2MemHl (s : State) : Result := .next (s.testBitMem .y2)

/-- R331, 0xCB 0x57: `BIT 2,A`. -/
def execBit2A (s : State) : Result := .next (s.testBitReg .y2 .a)

/-- R331, 0xCB 0x58: `BIT 3,B`. -/
def execBit3B (s : State) : Result := .next (s.testBitReg .y3 .b)

/-- R331, 0xCB 0x59: `BIT 3,C`. -/
def execBit3C (s : State) : Result := .next (s.testBitReg .y3 .c)

/-- R331, 0xCB 0x5A: `BIT 3,D`. -/
def execBit3D (s : State) : Result := .next (s.testBitReg .y3 .d)

/-- R331, 0xCB 0x5B: `BIT 3,E`. -/
def execBit3E (s : State) : Result := .next (s.testBitReg .y3 .e)

/-- R331, 0xCB 0x5C: `BIT 3,H`. -/
def execBit3H (s : State) : Result := .next (s.testBitReg .y3 .h)

/-- R331, 0xCB 0x5D: `BIT 3,L`. -/
def execBit3L (s : State) : Result := .next (s.testBitReg .y3 .l)

/-- R332, 0xCB 0x5E: `BIT 3,(HL)`. -/
def execBit3MemHl (s : State) : Result := .next (s.testBitMem .y3)

/-- R331, 0xCB 0x5F: `BIT 3,A`. -/
def execBit3A (s : State) : Result := .next (s.testBitReg .y3 .a)

/-- R331, 0xCB 0x60: `BIT 4,B`. -/
def execBit4B (s : State) : Result := .next (s.testBitReg .y4 .b)

/-- R331, 0xCB 0x61: `BIT 4,C`. -/
def execBit4C (s : State) : Result := .next (s.testBitReg .y4 .c)

/-- R331, 0xCB 0x62: `BIT 4,D`. -/
def execBit4D (s : State) : Result := .next (s.testBitReg .y4 .d)

/-- R331, 0xCB 0x63: `BIT 4,E`. -/
def execBit4E (s : State) : Result := .next (s.testBitReg .y4 .e)

/-- R331, 0xCB 0x64: `BIT 4,H`. -/
def execBit4H (s : State) : Result := .next (s.testBitReg .y4 .h)

/-- R331, 0xCB 0x65: `BIT 4,L`. -/
def execBit4L (s : State) : Result := .next (s.testBitReg .y4 .l)

/-- R332, 0xCB 0x66: `BIT 4,(HL)`. -/
def execBit4MemHl (s : State) : Result := .next (s.testBitMem .y4)

/-- R331, 0xCB 0x67: `BIT 4,A`. -/
def execBit4A (s : State) : Result := .next (s.testBitReg .y4 .a)

/-- R331, 0xCB 0x68: `BIT 5,B`. -/
def execBit5B (s : State) : Result := .next (s.testBitReg .y5 .b)

/-- R331, 0xCB 0x69: `BIT 5,C`. -/
def execBit5C (s : State) : Result := .next (s.testBitReg .y5 .c)

/-- R331, 0xCB 0x6A: `BIT 5,D`. -/
def execBit5D (s : State) : Result := .next (s.testBitReg .y5 .d)

/-- R331, 0xCB 0x6B: `BIT 5,E`. -/
def execBit5E (s : State) : Result := .next (s.testBitReg .y5 .e)

/-- R331, 0xCB 0x6C: `BIT 5,H`. -/
def execBit5H (s : State) : Result := .next (s.testBitReg .y5 .h)

/-- R331, 0xCB 0x6D: `BIT 5,L`. -/
def execBit5L (s : State) : Result := .next (s.testBitReg .y5 .l)

/-- R332, 0xCB 0x6E: `BIT 5,(HL)`. -/
def execBit5MemHl (s : State) : Result := .next (s.testBitMem .y5)

/-- R331, 0xCB 0x6F: `BIT 5,A`. -/
def execBit5A (s : State) : Result := .next (s.testBitReg .y5 .a)

/-- R331, 0xCB 0x70: `BIT 6,B`. -/
def execBit6B (s : State) : Result := .next (s.testBitReg .y6 .b)

/-- R331, 0xCB 0x71: `BIT 6,C`. -/
def execBit6C (s : State) : Result := .next (s.testBitReg .y6 .c)

/-- R331, 0xCB 0x72: `BIT 6,D`. -/
def execBit6D (s : State) : Result := .next (s.testBitReg .y6 .d)

/-- R331, 0xCB 0x73: `BIT 6,E`. -/
def execBit6E (s : State) : Result := .next (s.testBitReg .y6 .e)

/-- R331, 0xCB 0x74: `BIT 6,H`. -/
def execBit6H (s : State) : Result := .next (s.testBitReg .y6 .h)

/-- R331, 0xCB 0x75: `BIT 6,L`. -/
def execBit6L (s : State) : Result := .next (s.testBitReg .y6 .l)

/-- R332, 0xCB 0x76: `BIT 6,(HL)`. -/
def execBit6MemHl (s : State) : Result := .next (s.testBitMem .y6)

/-- R331, 0xCB 0x77: `BIT 6,A`. -/
def execBit6A (s : State) : Result := .next (s.testBitReg .y6 .a)

/-- R331, 0xCB 0x78: `BIT 7,B`. -/
def execBit7B (s : State) : Result := .next (s.testBitReg .y7 .b)

/-- R331, 0xCB 0x79: `BIT 7,C`. -/
def execBit7C (s : State) : Result := .next (s.testBitReg .y7 .c)

/-- R331, 0xCB 0x7A: `BIT 7,D`. -/
def execBit7D (s : State) : Result := .next (s.testBitReg .y7 .d)

/-- R331, 0xCB 0x7B: `BIT 7,E`. -/
def execBit7E (s : State) : Result := .next (s.testBitReg .y7 .e)

/-- R331, 0xCB 0x7C: `BIT 7,H`. -/
def execBit7H (s : State) : Result := .next (s.testBitReg .y7 .h)

/-- R331, 0xCB 0x7D: `BIT 7,L`. -/
def execBit7L (s : State) : Result := .next (s.testBitReg .y7 .l)

/-- R332, 0xCB 0x7E: `BIT 7,(HL)`. -/
def execBit7MemHl (s : State) : Result := .next (s.testBitMem .y7)

/-- R331, 0xCB 0x7F: `BIT 7,A`. -/
def execBit7A (s : State) : Result := .next (s.testBitReg .y7 .a)

/-- R333, 0xCB 0x80: `RES 0,B`. -/
def execRes0B (s : State) : Result := .next (s.resBitReg .y0 .b)

/-- R333, 0xCB 0x81: `RES 0,C`. -/
def execRes0C (s : State) : Result := .next (s.resBitReg .y0 .c)

/-- R333, 0xCB 0x82: `RES 0,D`. -/
def execRes0D (s : State) : Result := .next (s.resBitReg .y0 .d)

/-- R333, 0xCB 0x83: `RES 0,E`. -/
def execRes0E (s : State) : Result := .next (s.resBitReg .y0 .e)

/-- R333, 0xCB 0x84: `RES 0,H`. -/
def execRes0H (s : State) : Result := .next (s.resBitReg .y0 .h)

/-- R333, 0xCB 0x85: `RES 0,L`. -/
def execRes0L (s : State) : Result := .next (s.resBitReg .y0 .l)

/-- R334, 0xCB 0x86: `RES 0,(HL)`. -/
def execRes0MemHl (s : State) : Result := .next (s.resBitMem .y0)

/-- R333, 0xCB 0x87: `RES 0,A`. -/
def execRes0A (s : State) : Result := .next (s.resBitReg .y0 .a)

/-- R333, 0xCB 0x88: `RES 1,B`. -/
def execRes1B (s : State) : Result := .next (s.resBitReg .y1 .b)

/-- R333, 0xCB 0x89: `RES 1,C`. -/
def execRes1C (s : State) : Result := .next (s.resBitReg .y1 .c)

/-- R333, 0xCB 0x8A: `RES 1,D`. -/
def execRes1D (s : State) : Result := .next (s.resBitReg .y1 .d)

/-- R333, 0xCB 0x8B: `RES 1,E`. -/
def execRes1E (s : State) : Result := .next (s.resBitReg .y1 .e)

/-- R333, 0xCB 0x8C: `RES 1,H`. -/
def execRes1H (s : State) : Result := .next (s.resBitReg .y1 .h)

/-- R333, 0xCB 0x8D: `RES 1,L`. -/
def execRes1L (s : State) : Result := .next (s.resBitReg .y1 .l)

/-- R334, 0xCB 0x8E: `RES 1,(HL)`. -/
def execRes1MemHl (s : State) : Result := .next (s.resBitMem .y1)

/-- R333, 0xCB 0x8F: `RES 1,A`. -/
def execRes1A (s : State) : Result := .next (s.resBitReg .y1 .a)

/-- R333, 0xCB 0x90: `RES 2,B`. -/
def execRes2B (s : State) : Result := .next (s.resBitReg .y2 .b)

/-- R333, 0xCB 0x91: `RES 2,C`. -/
def execRes2C (s : State) : Result := .next (s.resBitReg .y2 .c)

/-- R333, 0xCB 0x92: `RES 2,D`. -/
def execRes2D (s : State) : Result := .next (s.resBitReg .y2 .d)

/-- R333, 0xCB 0x93: `RES 2,E`. -/
def execRes2E (s : State) : Result := .next (s.resBitReg .y2 .e)

/-- R333, 0xCB 0x94: `RES 2,H`. -/
def execRes2H (s : State) : Result := .next (s.resBitReg .y2 .h)

/-- R333, 0xCB 0x95: `RES 2,L`. -/
def execRes2L (s : State) : Result := .next (s.resBitReg .y2 .l)

/-- R334, 0xCB 0x96: `RES 2,(HL)`. -/
def execRes2MemHl (s : State) : Result := .next (s.resBitMem .y2)

/-- R333, 0xCB 0x97: `RES 2,A`. -/
def execRes2A (s : State) : Result := .next (s.resBitReg .y2 .a)

/-- R333, 0xCB 0x98: `RES 3,B`. -/
def execRes3B (s : State) : Result := .next (s.resBitReg .y3 .b)

/-- R333, 0xCB 0x99: `RES 3,C`. -/
def execRes3C (s : State) : Result := .next (s.resBitReg .y3 .c)

/-- R333, 0xCB 0x9A: `RES 3,D`. -/
def execRes3D (s : State) : Result := .next (s.resBitReg .y3 .d)

/-- R333, 0xCB 0x9B: `RES 3,E`. -/
def execRes3E (s : State) : Result := .next (s.resBitReg .y3 .e)

/-- R333, 0xCB 0x9C: `RES 3,H`. -/
def execRes3H (s : State) : Result := .next (s.resBitReg .y3 .h)

/-- R333, 0xCB 0x9D: `RES 3,L`. -/
def execRes3L (s : State) : Result := .next (s.resBitReg .y3 .l)

/-- R334, 0xCB 0x9E: `RES 3,(HL)`. -/
def execRes3MemHl (s : State) : Result := .next (s.resBitMem .y3)

/-- R333, 0xCB 0x9F: `RES 3,A`. -/
def execRes3A (s : State) : Result := .next (s.resBitReg .y3 .a)

/-- R333, 0xCB 0xA0: `RES 4,B`. -/
def execRes4B (s : State) : Result := .next (s.resBitReg .y4 .b)

/-- R333, 0xCB 0xA1: `RES 4,C`. -/
def execRes4C (s : State) : Result := .next (s.resBitReg .y4 .c)

/-- R333, 0xCB 0xA2: `RES 4,D`. -/
def execRes4D (s : State) : Result := .next (s.resBitReg .y4 .d)

/-- R333, 0xCB 0xA3: `RES 4,E`. -/
def execRes4E (s : State) : Result := .next (s.resBitReg .y4 .e)

/-- R333, 0xCB 0xA4: `RES 4,H`. -/
def execRes4H (s : State) : Result := .next (s.resBitReg .y4 .h)

/-- R333, 0xCB 0xA5: `RES 4,L`. -/
def execRes4L (s : State) : Result := .next (s.resBitReg .y4 .l)

/-- R334, 0xCB 0xA6: `RES 4,(HL)`. -/
def execRes4MemHl (s : State) : Result := .next (s.resBitMem .y4)

/-- R333, 0xCB 0xA7: `RES 4,A`. -/
def execRes4A (s : State) : Result := .next (s.resBitReg .y4 .a)

/-- R333, 0xCB 0xA8: `RES 5,B`. -/
def execRes5B (s : State) : Result := .next (s.resBitReg .y5 .b)

/-- R333, 0xCB 0xA9: `RES 5,C`. -/
def execRes5C (s : State) : Result := .next (s.resBitReg .y5 .c)

/-- R333, 0xCB 0xAA: `RES 5,D`. -/
def execRes5D (s : State) : Result := .next (s.resBitReg .y5 .d)

/-- R333, 0xCB 0xAB: `RES 5,E`. -/
def execRes5E (s : State) : Result := .next (s.resBitReg .y5 .e)

/-- R333, 0xCB 0xAC: `RES 5,H`. -/
def execRes5H (s : State) : Result := .next (s.resBitReg .y5 .h)

/-- R333, 0xCB 0xAD: `RES 5,L`. -/
def execRes5L (s : State) : Result := .next (s.resBitReg .y5 .l)

/-- R334, 0xCB 0xAE: `RES 5,(HL)`. -/
def execRes5MemHl (s : State) : Result := .next (s.resBitMem .y5)

/-- R333, 0xCB 0xAF: `RES 5,A`. -/
def execRes5A (s : State) : Result := .next (s.resBitReg .y5 .a)

/-- R333, 0xCB 0xB0: `RES 6,B`. -/
def execRes6B (s : State) : Result := .next (s.resBitReg .y6 .b)

/-- R333, 0xCB 0xB1: `RES 6,C`. -/
def execRes6C (s : State) : Result := .next (s.resBitReg .y6 .c)

/-- R333, 0xCB 0xB2: `RES 6,D`. -/
def execRes6D (s : State) : Result := .next (s.resBitReg .y6 .d)

/-- R333, 0xCB 0xB3: `RES 6,E`. -/
def execRes6E (s : State) : Result := .next (s.resBitReg .y6 .e)

/-- R333, 0xCB 0xB4: `RES 6,H`. -/
def execRes6H (s : State) : Result := .next (s.resBitReg .y6 .h)

/-- R333, 0xCB 0xB5: `RES 6,L`. -/
def execRes6L (s : State) : Result := .next (s.resBitReg .y6 .l)

/-- R334, 0xCB 0xB6: `RES 6,(HL)`. -/
def execRes6MemHl (s : State) : Result := .next (s.resBitMem .y6)

/-- R333, 0xCB 0xB7: `RES 6,A`. -/
def execRes6A (s : State) : Result := .next (s.resBitReg .y6 .a)

/-- R333, 0xCB 0xB8: `RES 7,B`. -/
def execRes7B (s : State) : Result := .next (s.resBitReg .y7 .b)

/-- R333, 0xCB 0xB9: `RES 7,C`. -/
def execRes7C (s : State) : Result := .next (s.resBitReg .y7 .c)

/-- R333, 0xCB 0xBA: `RES 7,D`. -/
def execRes7D (s : State) : Result := .next (s.resBitReg .y7 .d)

/-- R333, 0xCB 0xBB: `RES 7,E`. -/
def execRes7E (s : State) : Result := .next (s.resBitReg .y7 .e)

/-- R333, 0xCB 0xBC: `RES 7,H`. -/
def execRes7H (s : State) : Result := .next (s.resBitReg .y7 .h)

/-- R333, 0xCB 0xBD: `RES 7,L`. -/
def execRes7L (s : State) : Result := .next (s.resBitReg .y7 .l)

/-- R334, 0xCB 0xBE: `RES 7,(HL)`. -/
def execRes7MemHl (s : State) : Result := .next (s.resBitMem .y7)

/-- R333, 0xCB 0xBF: `RES 7,A`. -/
def execRes7A (s : State) : Result := .next (s.resBitReg .y7 .a)

/-- R335, 0xCB 0xC0: `SET 0,B`. -/
def execSet0B (s : State) : Result := .next (s.setBitReg .y0 .b)

/-- R335, 0xCB 0xC1: `SET 0,C`. -/
def execSet0C (s : State) : Result := .next (s.setBitReg .y0 .c)

/-- R335, 0xCB 0xC2: `SET 0,D`. -/
def execSet0D (s : State) : Result := .next (s.setBitReg .y0 .d)

/-- R335, 0xCB 0xC3: `SET 0,E`. -/
def execSet0E (s : State) : Result := .next (s.setBitReg .y0 .e)

/-- R335, 0xCB 0xC4: `SET 0,H`. -/
def execSet0H (s : State) : Result := .next (s.setBitReg .y0 .h)

/-- R335, 0xCB 0xC5: `SET 0,L`. -/
def execSet0L (s : State) : Result := .next (s.setBitReg .y0 .l)

/-- R336, 0xCB 0xC6: `SET 0,(HL)`. -/
def execSet0MemHl (s : State) : Result := .next (s.setBitMem .y0)

/-- R335, 0xCB 0xC7: `SET 0,A`. -/
def execSet0A (s : State) : Result := .next (s.setBitReg .y0 .a)

/-- R335, 0xCB 0xC8: `SET 1,B`. -/
def execSet1B (s : State) : Result := .next (s.setBitReg .y1 .b)

/-- R335, 0xCB 0xC9: `SET 1,C`. -/
def execSet1C (s : State) : Result := .next (s.setBitReg .y1 .c)

/-- R335, 0xCB 0xCA: `SET 1,D`. -/
def execSet1D (s : State) : Result := .next (s.setBitReg .y1 .d)

/-- R335, 0xCB 0xCB: `SET 1,E`. -/
def execSet1E (s : State) : Result := .next (s.setBitReg .y1 .e)

/-- R335, 0xCB 0xCC: `SET 1,H`. -/
def execSet1H (s : State) : Result := .next (s.setBitReg .y1 .h)

/-- R335, 0xCB 0xCD: `SET 1,L`. -/
def execSet1L (s : State) : Result := .next (s.setBitReg .y1 .l)

/-- R336, 0xCB 0xCE: `SET 1,(HL)`. -/
def execSet1MemHl (s : State) : Result := .next (s.setBitMem .y1)

/-- R335, 0xCB 0xCF: `SET 1,A`. -/
def execSet1A (s : State) : Result := .next (s.setBitReg .y1 .a)

/-- R335, 0xCB 0xD0: `SET 2,B`. -/
def execSet2B (s : State) : Result := .next (s.setBitReg .y2 .b)

/-- R335, 0xCB 0xD1: `SET 2,C`. -/
def execSet2C (s : State) : Result := .next (s.setBitReg .y2 .c)

/-- R335, 0xCB 0xD2: `SET 2,D`. -/
def execSet2D (s : State) : Result := .next (s.setBitReg .y2 .d)

/-- R335, 0xCB 0xD3: `SET 2,E`. -/
def execSet2E (s : State) : Result := .next (s.setBitReg .y2 .e)

/-- R335, 0xCB 0xD4: `SET 2,H`. -/
def execSet2H (s : State) : Result := .next (s.setBitReg .y2 .h)

/-- R335, 0xCB 0xD5: `SET 2,L`. -/
def execSet2L (s : State) : Result := .next (s.setBitReg .y2 .l)

/-- R336, 0xCB 0xD6: `SET 2,(HL)`. -/
def execSet2MemHl (s : State) : Result := .next (s.setBitMem .y2)

/-- R335, 0xCB 0xD7: `SET 2,A`. -/
def execSet2A (s : State) : Result := .next (s.setBitReg .y2 .a)

/-- R335, 0xCB 0xD8: `SET 3,B`. -/
def execSet3B (s : State) : Result := .next (s.setBitReg .y3 .b)

/-- R335, 0xCB 0xD9: `SET 3,C`. -/
def execSet3C (s : State) : Result := .next (s.setBitReg .y3 .c)

/-- R335, 0xCB 0xDA: `SET 3,D`. -/
def execSet3D (s : State) : Result := .next (s.setBitReg .y3 .d)

/-- R335, 0xCB 0xDB: `SET 3,E`. -/
def execSet3E (s : State) : Result := .next (s.setBitReg .y3 .e)

/-- R335, 0xCB 0xDC: `SET 3,H`. -/
def execSet3H (s : State) : Result := .next (s.setBitReg .y3 .h)

/-- R335, 0xCB 0xDD: `SET 3,L`. -/
def execSet3L (s : State) : Result := .next (s.setBitReg .y3 .l)

/-- R336, 0xCB 0xDE: `SET 3,(HL)`. -/
def execSet3MemHl (s : State) : Result := .next (s.setBitMem .y3)

/-- R335, 0xCB 0xDF: `SET 3,A`. -/
def execSet3A (s : State) : Result := .next (s.setBitReg .y3 .a)

/-- R335, 0xCB 0xE0: `SET 4,B`. -/
def execSet4B (s : State) : Result := .next (s.setBitReg .y4 .b)

/-- R335, 0xCB 0xE1: `SET 4,C`. -/
def execSet4C (s : State) : Result := .next (s.setBitReg .y4 .c)

/-- R335, 0xCB 0xE2: `SET 4,D`. -/
def execSet4D (s : State) : Result := .next (s.setBitReg .y4 .d)

/-- R335, 0xCB 0xE3: `SET 4,E`. -/
def execSet4E (s : State) : Result := .next (s.setBitReg .y4 .e)

/-- R335, 0xCB 0xE4: `SET 4,H`. -/
def execSet4H (s : State) : Result := .next (s.setBitReg .y4 .h)

/-- R335, 0xCB 0xE5: `SET 4,L`. -/
def execSet4L (s : State) : Result := .next (s.setBitReg .y4 .l)

/-- R336, 0xCB 0xE6: `SET 4,(HL)`. -/
def execSet4MemHl (s : State) : Result := .next (s.setBitMem .y4)

/-- R335, 0xCB 0xE7: `SET 4,A`. -/
def execSet4A (s : State) : Result := .next (s.setBitReg .y4 .a)

/-- R335, 0xCB 0xE8: `SET 5,B`. -/
def execSet5B (s : State) : Result := .next (s.setBitReg .y5 .b)

/-- R335, 0xCB 0xE9: `SET 5,C`. -/
def execSet5C (s : State) : Result := .next (s.setBitReg .y5 .c)

/-- R335, 0xCB 0xEA: `SET 5,D`. -/
def execSet5D (s : State) : Result := .next (s.setBitReg .y5 .d)

/-- R335, 0xCB 0xEB: `SET 5,E`. -/
def execSet5E (s : State) : Result := .next (s.setBitReg .y5 .e)

/-- R335, 0xCB 0xEC: `SET 5,H`. -/
def execSet5H (s : State) : Result := .next (s.setBitReg .y5 .h)

/-- R335, 0xCB 0xED: `SET 5,L`. -/
def execSet5L (s : State) : Result := .next (s.setBitReg .y5 .l)

/-- R336, 0xCB 0xEE: `SET 5,(HL)`. -/
def execSet5MemHl (s : State) : Result := .next (s.setBitMem .y5)

/-- R335, 0xCB 0xEF: `SET 5,A`. -/
def execSet5A (s : State) : Result := .next (s.setBitReg .y5 .a)

/-- R335, 0xCB 0xF0: `SET 6,B`. -/
def execSet6B (s : State) : Result := .next (s.setBitReg .y6 .b)

/-- R335, 0xCB 0xF1: `SET 6,C`. -/
def execSet6C (s : State) : Result := .next (s.setBitReg .y6 .c)

/-- R335, 0xCB 0xF2: `SET 6,D`. -/
def execSet6D (s : State) : Result := .next (s.setBitReg .y6 .d)

/-- R335, 0xCB 0xF3: `SET 6,E`. -/
def execSet6E (s : State) : Result := .next (s.setBitReg .y6 .e)

/-- R335, 0xCB 0xF4: `SET 6,H`. -/
def execSet6H (s : State) : Result := .next (s.setBitReg .y6 .h)

/-- R335, 0xCB 0xF5: `SET 6,L`. -/
def execSet6L (s : State) : Result := .next (s.setBitReg .y6 .l)

/-- R336, 0xCB 0xF6: `SET 6,(HL)`. -/
def execSet6MemHl (s : State) : Result := .next (s.setBitMem .y6)

/-- R335, 0xCB 0xF7: `SET 6,A`. -/
def execSet6A (s : State) : Result := .next (s.setBitReg .y6 .a)

/-- R335, 0xCB 0xF8: `SET 7,B`. -/
def execSet7B (s : State) : Result := .next (s.setBitReg .y7 .b)

/-- R335, 0xCB 0xF9: `SET 7,C`. -/
def execSet7C (s : State) : Result := .next (s.setBitReg .y7 .c)

/-- R335, 0xCB 0xFA: `SET 7,D`. -/
def execSet7D (s : State) : Result := .next (s.setBitReg .y7 .d)

/-- R335, 0xCB 0xFB: `SET 7,E`. -/
def execSet7E (s : State) : Result := .next (s.setBitReg .y7 .e)

/-- R335, 0xCB 0xFC: `SET 7,H`. -/
def execSet7H (s : State) : Result := .next (s.setBitReg .y7 .h)

/-- R335, 0xCB 0xFD: `SET 7,L`. -/
def execSet7L (s : State) : Result := .next (s.setBitReg .y7 .l)

/-- R336, 0xCB 0xFE: `SET 7,(HL)`. -/
def execSet7MemHl (s : State) : Result := .next (s.setBitMem .y7)

/-- R335, 0xCB 0xFF: `SET 7,A`. -/
def execSet7A (s : State) : Result := .next (s.setBitReg .y7 .a)

end Sys2Proof.Machine
end

