-- ==== Sys2Proof/Machine/Rotate.lean ====
section
/-! DEFINITION. Rotates and shifts (43_rotate_shift_bit.md R310 to R330): the shared forms, then one meaning per instruction. -/

namespace Sys2Proof.Machine

/-- The accumulator rotates: Z always 0 (43_rotate_shift_bit.md R311 to R314). -/
def State.rotAcc (op : RotOp) (s : State) : State := s.setAcc (rotAccResult op s.cpu.a s.cpu.f)

/-- A prefixed rotate or shift of a register (43_rotate_shift_bit.md R310). -/
def State.rotReg (op : RotOp) (r : Reg8) (s : State) : State :=
  let x := rotResult op (s.cpu.reg r) s.cpu.f
  (s.setReg r x.value).setFlags x.flags

/-- A prefixed rotate or shift of the byte at HL: read at offset 2, write at offset 3 (43_rotate_shift_bit.md R310). -/
def State.rotMem (op : RotOp) (s : State) : State :=
  let s1 := s.readNext s.hl
  let x := rotResult op s1.latch s1.cpu.f
  (s1.setFlags x.flags).writeNext s1.hl x.value

/-! ### The meanings -/

/-- R311, 0x07: `RLCA`. -/
def execRlca (s : State) : Result := .next (s.rotAcc .rlc)

/-- R312, 0x0F: `RRCA`. -/
def execRrca (s : State) : Result := .next (s.rotAcc .rrc)

/-- R313, 0x17: `RLA`. -/
def execRla (s : State) : Result := .next (s.rotAcc .rl)

/-- R314, 0x1F: `RRA`. -/
def execRra (s : State) : Result := .next (s.rotAcc .rr)

/-- R315, 0xCB 0x00: `RLC B`. -/
def execRlcB (s : State) : Result := .next (s.rotReg .rlc .b)

/-- R315, 0xCB 0x01: `RLC C`. -/
def execRlcC (s : State) : Result := .next (s.rotReg .rlc .c)

/-- R315, 0xCB 0x02: `RLC D`. -/
def execRlcD (s : State) : Result := .next (s.rotReg .rlc .d)

/-- R315, 0xCB 0x03: `RLC E`. -/
def execRlcE (s : State) : Result := .next (s.rotReg .rlc .e)

/-- R315, 0xCB 0x04: `RLC H`. -/
def execRlcH (s : State) : Result := .next (s.rotReg .rlc .h)

/-- R315, 0xCB 0x05: `RLC L`. -/
def execRlcL (s : State) : Result := .next (s.rotReg .rlc .l)

/-- R316, 0xCB 0x06: `RLC (HL)`. -/
def execRlcMemHl (s : State) : Result := .next (s.rotMem .rlc)

/-- R315, 0xCB 0x07: `RLC A`. -/
def execRlcA (s : State) : Result := .next (s.rotReg .rlc .a)

/-- R317, 0xCB 0x08: `RRC B`. -/
def execRrcB (s : State) : Result := .next (s.rotReg .rrc .b)

/-- R317, 0xCB 0x09: `RRC C`. -/
def execRrcC (s : State) : Result := .next (s.rotReg .rrc .c)

/-- R317, 0xCB 0x0A: `RRC D`. -/
def execRrcD (s : State) : Result := .next (s.rotReg .rrc .d)

/-- R317, 0xCB 0x0B: `RRC E`. -/
def execRrcE (s : State) : Result := .next (s.rotReg .rrc .e)

/-- R317, 0xCB 0x0C: `RRC H`. -/
def execRrcH (s : State) : Result := .next (s.rotReg .rrc .h)

/-- R317, 0xCB 0x0D: `RRC L`. -/
def execRrcL (s : State) : Result := .next (s.rotReg .rrc .l)

/-- R318, 0xCB 0x0E: `RRC (HL)`. -/
def execRrcMemHl (s : State) : Result := .next (s.rotMem .rrc)

/-- R317, 0xCB 0x0F: `RRC A`. -/
def execRrcA (s : State) : Result := .next (s.rotReg .rrc .a)

/-- R319, 0xCB 0x10: `RL B`. -/
def execRlB (s : State) : Result := .next (s.rotReg .rl .b)

/-- R319, 0xCB 0x11: `RL C`. -/
def execRlC (s : State) : Result := .next (s.rotReg .rl .c)

/-- R319, 0xCB 0x12: `RL D`. -/
def execRlD (s : State) : Result := .next (s.rotReg .rl .d)

/-- R319, 0xCB 0x13: `RL E`. -/
def execRlE (s : State) : Result := .next (s.rotReg .rl .e)

/-- R319, 0xCB 0x14: `RL H`. -/
def execRlH (s : State) : Result := .next (s.rotReg .rl .h)

/-- R319, 0xCB 0x15: `RL L`. -/
def execRlL (s : State) : Result := .next (s.rotReg .rl .l)

/-- R320, 0xCB 0x16: `RL (HL)`. -/
def execRlMemHl (s : State) : Result := .next (s.rotMem .rl)

/-- R319, 0xCB 0x17: `RL A`. -/
def execRlA (s : State) : Result := .next (s.rotReg .rl .a)

/-- R321, 0xCB 0x18: `RR B`. -/
def execRrB (s : State) : Result := .next (s.rotReg .rr .b)

/-- R321, 0xCB 0x19: `RR C`. -/
def execRrC (s : State) : Result := .next (s.rotReg .rr .c)

/-- R321, 0xCB 0x1A: `RR D`. -/
def execRrD (s : State) : Result := .next (s.rotReg .rr .d)

/-- R321, 0xCB 0x1B: `RR E`. -/
def execRrE (s : State) : Result := .next (s.rotReg .rr .e)

/-- R321, 0xCB 0x1C: `RR H`. -/
def execRrH (s : State) : Result := .next (s.rotReg .rr .h)

/-- R321, 0xCB 0x1D: `RR L`. -/
def execRrL (s : State) : Result := .next (s.rotReg .rr .l)

/-- R322, 0xCB 0x1E: `RR (HL)`. -/
def execRrMemHl (s : State) : Result := .next (s.rotMem .rr)

/-- R321, 0xCB 0x1F: `RR A`. -/
def execRrA (s : State) : Result := .next (s.rotReg .rr .a)

/-- R323, 0xCB 0x20: `SLA B`. -/
def execSlaB (s : State) : Result := .next (s.rotReg .sla .b)

/-- R323, 0xCB 0x21: `SLA C`. -/
def execSlaC (s : State) : Result := .next (s.rotReg .sla .c)

/-- R323, 0xCB 0x22: `SLA D`. -/
def execSlaD (s : State) : Result := .next (s.rotReg .sla .d)

/-- R323, 0xCB 0x23: `SLA E`. -/
def execSlaE (s : State) : Result := .next (s.rotReg .sla .e)

/-- R323, 0xCB 0x24: `SLA H`. -/
def execSlaH (s : State) : Result := .next (s.rotReg .sla .h)

/-- R323, 0xCB 0x25: `SLA L`. -/
def execSlaL (s : State) : Result := .next (s.rotReg .sla .l)

/-- R324, 0xCB 0x26: `SLA (HL)`. -/
def execSlaMemHl (s : State) : Result := .next (s.rotMem .sla)

/-- R323, 0xCB 0x27: `SLA A`. -/
def execSlaA (s : State) : Result := .next (s.rotReg .sla .a)

/-- R325, 0xCB 0x28: `SRA B`. -/
def execSraB (s : State) : Result := .next (s.rotReg .sra .b)

/-- R325, 0xCB 0x29: `SRA C`. -/
def execSraC (s : State) : Result := .next (s.rotReg .sra .c)

/-- R325, 0xCB 0x2A: `SRA D`. -/
def execSraD (s : State) : Result := .next (s.rotReg .sra .d)

/-- R325, 0xCB 0x2B: `SRA E`. -/
def execSraE (s : State) : Result := .next (s.rotReg .sra .e)

/-- R325, 0xCB 0x2C: `SRA H`. -/
def execSraH (s : State) : Result := .next (s.rotReg .sra .h)

/-- R325, 0xCB 0x2D: `SRA L`. -/
def execSraL (s : State) : Result := .next (s.rotReg .sra .l)

/-- R326, 0xCB 0x2E: `SRA (HL)`. -/
def execSraMemHl (s : State) : Result := .next (s.rotMem .sra)

/-- R325, 0xCB 0x2F: `SRA A`. -/
def execSraA (s : State) : Result := .next (s.rotReg .sra .a)

/-- R327, 0xCB 0x30: `SWAP B`. -/
def execSwapB (s : State) : Result := .next (s.rotReg .swap .b)

/-- R327, 0xCB 0x31: `SWAP C`. -/
def execSwapC (s : State) : Result := .next (s.rotReg .swap .c)

/-- R327, 0xCB 0x32: `SWAP D`. -/
def execSwapD (s : State) : Result := .next (s.rotReg .swap .d)

/-- R327, 0xCB 0x33: `SWAP E`. -/
def execSwapE (s : State) : Result := .next (s.rotReg .swap .e)

/-- R327, 0xCB 0x34: `SWAP H`. -/
def execSwapH (s : State) : Result := .next (s.rotReg .swap .h)

/-- R327, 0xCB 0x35: `SWAP L`. -/
def execSwapL (s : State) : Result := .next (s.rotReg .swap .l)

/-- R328, 0xCB 0x36: `SWAP (HL)`. -/
def execSwapMemHl (s : State) : Result := .next (s.rotMem .swap)

/-- R327, 0xCB 0x37: `SWAP A`. -/
def execSwapA (s : State) : Result := .next (s.rotReg .swap .a)

/-- R329, 0xCB 0x38: `SRL B`. -/
def execSrlB (s : State) : Result := .next (s.rotReg .srl .b)

/-- R329, 0xCB 0x39: `SRL C`. -/
def execSrlC (s : State) : Result := .next (s.rotReg .srl .c)

/-- R329, 0xCB 0x3A: `SRL D`. -/
def execSrlD (s : State) : Result := .next (s.rotReg .srl .d)

/-- R329, 0xCB 0x3B: `SRL E`. -/
def execSrlE (s : State) : Result := .next (s.rotReg .srl .e)

/-- R329, 0xCB 0x3C: `SRL H`. -/
def execSrlH (s : State) : Result := .next (s.rotReg .srl .h)

/-- R329, 0xCB 0x3D: `SRL L`. -/
def execSrlL (s : State) : Result := .next (s.rotReg .srl .l)

/-- R330, 0xCB 0x3E: `SRL (HL)`. -/
def execSrlMemHl (s : State) : Result := .next (s.rotMem .srl)

/-- R329, 0xCB 0x3F: `SRL A`. -/
def execSrlA (s : State) : Result := .next (s.rotReg .srl .a)

end Sys2Proof.Machine
end

