-- ==== Sys2Proof/Machine/System.lean ====
section
/-! DEFINITION. System and interrupt-control instructions and the undefined opcodes (45_system.md R380 to R386): the shared forms, then one
meaning per instruction. -/

namespace Sys2Proof.Machine

/-- HALT: the halted state, or the halt bug (45_system.md R381). -/
def State.enterHalt (s : State) : State :=
  if s.cpu.ime ∨ s.pending = 0 then s.mapCpu (fun p => { p with halted := true })
  else s.mapCpu (fun p => { p with haltBug := true })

/-- STOP: the second byte is skipped; a refusal with the speed switch armed, else the stopped state and the divider's reset
(45_system.md R382; 60_exceptions.md R468). -/
def State.enterStop (s : State) : State :=
  let s1 := s.setPc (s.cpu.pc + 1)
  if s1.key1 then s1.markRefused .doubleSpeed
  else (s1.mapCpu (fun p => { p with stopped := true })).writeDiv

/-- DI (45_system.md R383). -/
def State.disableInterrupts (s : State) : State := s.mapCpu (fun p => { p with ime := false, eiDelay := 0 })

/-- EI (45_system.md R384). -/
def State.enableInterrupts (s : State) : State :=
  if s.cpu.ime = false ∧ s.cpu.eiDelay = 0 then s.mapCpu (fun p => { p with eiDelay := 2 }) else s

/-- A prefixed instruction by the fields of its second byte (30_encoding.md R172, R182; 43_rotate_shift_bit.md R310). -/
def State.prefixedOp (op2 : Byte) (s : State) : State :=
  let x := op2.toNat / 64
  let y := op2.toNat / 8 % 8
  match operandOf (op2.toNat % 8) with
  | some r =>
    match x with
    | 0 => s.rotReg (rotOf y) r
    | 1 => s.testBitReg (octOf y) r
    | 2 => s.resBitReg (octOf y) r
    | _ => s.setBitReg (octOf y) r
  | none =>
    match x with
    | 0 => s.rotMem (rotOf y)
    | 1 => s.testBitMem (octOf y)
    | 2 => s.resBitMem (octOf y)
    | _ => s.setBitMem (octOf y)

/-- `PREFIX CB`: fetch the second byte, then run what it selects (45_system.md R385). -/
def State.prefixCb (s : State) : State :=
  let s1 := s.fetchNext.prefixedRemaining
  s1.prefixedOp s1.latch

/-! ### The meanings -/

/-- R380, 0x00: `NOP`. -/
def execNop (s : State) : Result := .next s

/-- R382, 0x10: `STOP`. -/
def execStop (s : State) : Result := .next (s.enterStop)

/-- R381, 0x76: `HALT`. -/
def execHalt (s : State) : Result := .next (s.enterHalt)

/-- R385, 0xCB: `PREFIX CB`. -/
def execPrefixCb (s : State) : Result := .next (s.prefixCb)

/-- R386, 0xD3: `ILLEGAL_D3`. -/
def execIllegalD3 (s : State) : Result := .next (s.raiseFrozen 0xD3)

/-- R386, 0xDB: `ILLEGAL_DB`. -/
def execIllegalDB (s : State) : Result := .next (s.raiseFrozen 0xDB)

/-- R386, 0xDD: `ILLEGAL_DD`. -/
def execIllegalDD (s : State) : Result := .next (s.raiseFrozen 0xDD)

/-- R386, 0xE3: `ILLEGAL_E3`. -/
def execIllegalE3 (s : State) : Result := .next (s.raiseFrozen 0xE3)

/-- R386, 0xE4: `ILLEGAL_E4`. -/
def execIllegalE4 (s : State) : Result := .next (s.raiseFrozen 0xE4)

/-- R386, 0xEB: `ILLEGAL_EB`. -/
def execIllegalEB (s : State) : Result := .next (s.raiseFrozen 0xEB)

/-- R386, 0xEC: `ILLEGAL_EC`. -/
def execIllegalEC (s : State) : Result := .next (s.raiseFrozen 0xEC)

/-- R386, 0xED: `ILLEGAL_ED`. -/
def execIllegalED (s : State) : Result := .next (s.raiseFrozen 0xED)

/-- R383, 0xF3: `DI`. -/
def execDi (s : State) : Result := .next (s.disableInterrupts)

/-- R386, 0xF4: `ILLEGAL_F4`. -/
def execIllegalF4 (s : State) : Result := .next (s.raiseFrozen 0xF4)

/-- R384, 0xFB: `EI`. -/
def execEi (s : State) : Result := .next (s.enableInterrupts)

/-- R386, 0xFC: `ILLEGAL_FC`. -/
def execIllegalFC (s : State) : Result := .next (s.raiseFrozen 0xFC)

/-- R386, 0xFD: `ILLEGAL_FD`. -/
def execIllegalFD (s : State) : Result := .next (s.raiseFrozen 0xFD)

end Sys2Proof.Machine
end

