-- ==== Sys2Proof/Machine/Load.lean ====
section
/-! DEFINITION. Loading a cartridge and resetting (70_reset_and_hazards.md R501, R507, R508): what the host does before a run. -/

namespace Sys2Proof.Machine

/-- The header checksum of an image: `x <- (x - rom[a] - 1) & 0xFF` over n bytes from address a (70_reset_and_hazards.md R508). -/
def checksumFrom (image : Memory) : Nat → Nat → Byte → Byte
  | 0, _, x => x
  | n + 1, a, x => checksumFrom image n (a + 1) (x - Memory.get Config.imageBlank image a - 1)

/-- The checksum of the header bytes 0x0134 to 0x014C agrees with the byte at 0x014D (70_reset_and_hazards.md R508). -/
def checksumOk (image : Memory) : Bool := checksumFrom image 25 0x134 0 == Memory.get Config.imageBlank image 0x14D

/-- The examination of OAM entry 0 that is part of reset where the pipeline starts at the start of a visible line (70_reset_and_hazards.md
R505; 60_exceptions.md R448). -/
def State.examineAtReset (s : State) : State := if s.ppu.ly < 144 && s.ppu.lineDot == 0 then s.examine 0 else s

/-- The whole reset procedure, for any values of the parameters (70_reset_and_hazards.md R501). With the defaults it is `State.reset`. -/
def State.powerOn (init : Initial) (params : Params) (cart : Cart) : State := (State.resetWith init params cart).examineAtReset

/-- The load result the host gets: the machine to run or the failure, and the checksum's verdict, which stops nothing (70_reset_and_hazards.md
R507, R508). -/
structure LoadResult where
  machine : Result
  checksum : Bool

/-- Load an image behind a controller and reset: an unknown type or size code is fatal, the machine never runs
(70_reset_and_hazards.md R501, R507). The known codes belong to `cart` (log entry 5). -/
def loadCartridge (init : Initial) (params : Params) (image : Memory) : LoadResult :=
  let header (a : Nat) : Byte := Memory.get Config.imageBlank image a
  { machine :=
      match Config.cartInfo (header 0x147) (header 0x148) (header 0x149) with
      | none => .fault .unknownCartridge
      | some info =>
        .next
          (State.powerOn init params
            { kind := .controlled, image := image, writes := [], hasRam := info.hasRam, hasBattery := info.hasBattery
              romBanks := info.romBanks, ramBanks := info.ramBanks })
    checksum := checksumOk image }

end Sys2Proof.Machine
end

