-- ==== Sys2Proof/Machine/Step.lean ====
section
/-! DEFINITION. One step of the machine: one instruction boundary and all it starts (60_exceptions.md R400), and where the host places an
instruction for it. -/

namespace Sys2Proof.Machine

/-- The end of a run: a fatal condition is a fault, the use of an unimplemented feature a refusal (60_exceptions.md R427, R468). -/
def conclude (s : State) : Result :=
  match s.fatal with
  | some m => .fault (.fatal m)
  | none =>
    match s.refused with
    | some f => .refused (.unmodelled f)
    | none => .next s

/-- The end of what a boundary started: its last machine cycle ends. -/
def finish (r : Result) : Result :=
  match r with
  | .next t => conclude t.endCycle
  | .fault f => .fault f
  | .refused f => .refused f

/-- Run an instruction from its opcode fetch: fetch its bytes, decode them, execute (30_encoding.md R184). -/
def runInstruction (s : State) : Result :=
  match decode s.fetchInstr.1 with
  | .ok (i, _) => exec i s.fetchInstr.2
  | .error _ => .refused .undecodable

/-- What a boundary's decision does (60_exceptions.md R400). -/
def runBoundary (s : State) : Result :=
  match s.boundary with
  | (.nothing, t) => .next t
  | (.idle, t) => .next t
  | (.dispatch k, t) => .next (t.takeInterrupt k)
  | (.instruction, t) => runInstruction t

/-- One step: the next machine cycle begins, its boundary is decided, and all that starts is run. -/
def step (s : State) : Host.Outcome State Fault Refusal :=
  match conclude s with
  | .next t => finish (runBoundary t.beginCycle)
  | .fault f => .fault f
  | .refused f => .refused f

/-- The machine with an instruction of the opcode table placed where the next step fetches (log entry 5): `nbits` bits of `w` numbered as
the table numbers them, followed by zeros. -/
def State.withFetchWord (s : State) (nbits w : Nat) : State := s.placeCode (paddedBytes nbits w)

end Sys2Proof.Machine
end

