-- ==== Sys2Proof/Safety.lean ====
section
/-! DEFINITION. The terms claims are stated in: the invariants of a run, the passing of machine cycles and the accesses in them, the spec's flag
and result rules written on unbounded integers, and the groups of instructions a statement names. -/

namespace Sys2Proof.Machine

/-! ### Invariants of a run -/

/-- The run goes on: no fatal condition and no refusal (60_exceptions.md R427, R468). -/
def State.Live (s : State) : Prop := s.fatal = none ∧ s.refused = none

/-- Nothing of an instruction is outstanding (10_state.md R57, R58): what holds at every boundary. -/
def State.AtBoundary (s : State) : Prop := s.sched.queue = [] ∧ s.sched.remaining = 0

/-- "bits 3:0 of F always read 0" (10_state.md R44). -/
def State.FlagsClean (s : State) : Prop := s.cpu.f.toNat % 16 = 0

/-- The control bits of the core: `eiDelay` holds 0, 1 or 2 (10_state.md R51), armed only while IME is 0 (45_system.md R384), and "only one of
stopped and halted can be 1" (60_exceptions.md R428). -/
structure State.ControlInv (s : State) : Prop where
  delay : s.cpu.eiDelay.toNat ≤ 2
  armed : s.cpu.ime = true → s.cpu.eiDelay = 0
  lowPower : s.cpu.halted = true → s.cpu.stopped = false

/-- The pipeline's counters and list stay in their ranges, and the candidates stand in table order, each examined in a dot of this line
(60_exceptions.md R440, R441, R448). -/
structure State.PictureInv (s : State) : Prop where
  line : s.ppu.ly < 154
  dot : s.ppu.lineDot < 456
  candidates : s.ppu.candidates.length ≤ 10
  least : 172 ≤ s.ppu.transfer
  most : s.ppu.transfer ≤ 376
  ordered : s.ppu.candidates.Pairwise (fun d e => d.index < e.index)
  examined : s.ppu.lcdOn = true → s.ppu.ly < 144 → ∀ e ∈ s.ppu.candidates, 2 * e.index ≤ s.ppu.lineDot

/-- A transfer that is active at a boundary has bytes left to copy (20_memory.md R129, R130). -/
def State.DmaInv (s : State) : Prop := s.dma.index ≤ 160 ∧ (s.dma.active = true → s.dma.index < 160)

/-- In the default timer model the stored gate bit is the gated bit as it stands (60_exceptions.md R460). -/
def State.TimerInv (s : State) : Prop := s.params.timerModel = .standard → s.timer.gate = s.timer.gated

/-! ### Time and accesses -/

/-- n machine cycles in which the core makes no access. -/
def State.cycles : Nat → State → State
  | 0, s => s
  | n + 1, s => (State.cycles n s).nextCycle

/-- The machine cycles of what a boundary starts: one where the core idles, five for a dispatch, the cycle table's count for an instruction, from
its opcode, or its second byte after the prefix, and F (60_exceptions.md R400, R401, R410; 70_reset_and_hazards.md R520). -/
def startCycles (b : Start × State) : Nat :=
  match b.1 with
  | .nothing => 1
  | .idle => 1
  | .dispatch _ => 5
  | .instruction =>
    let op := b.2.routerRead b.2.cpu.pc
    if op = 0xCB then prefixedCycles (b.2.fetchInstr.1.getD 1 0) else primaryCycles op b.2.cpu.f

/-- One machine cycle in which the core reads the byte at a: the byte is delivered, and a fatal condition the cartridge reports is marked
(20_memory.md R120 to R122, R168). -/
def State.afterRead (a : Word) (s : State) : State :=
  let u := s.nextCycle
  State.markFatal (u.readFatal a) { u with sched := { u.sched with latch := u.routerRead a } }

/-- One machine cycle in which the core writes the byte v at a (20_memory.md R120, R121). -/
def State.afterWrite (a : Word) (v : Byte) (s : State) : State := s.nextCycle.routerWrite a v

/-- Two machine cycles that push a word: the high byte at SP - 1, then the low byte at SP - 2 (10_state.md R49). -/
def State.afterPush (w : Word) (s : State) : State :=
  (((s.setSp (s.cpu.sp - 1)).afterWrite (s.cpu.sp - 1) (hi w)).setSp (s.cpu.sp - 2)).afterWrite (s.cpu.sp - 2) (lo w)

/-- Two machine cycles that pop a word: the low byte at SP, then the high byte at SP + 1 (10_state.md R49). -/
def State.afterPop (s : State) : State :=
  ((((s.afterRead s.cpu.sp).setSp (s.cpu.sp + 1)).afterRead (s.cpu.sp + 1)).setSp (s.cpu.sp + 2))

/-- The word those two machine cycles read. -/
def State.popped (s : State) : Word :=
  pair (((s.afterRead s.cpu.sp).setSp (s.cpu.sp + 1)).nextCycle.routerRead (s.cpu.sp + 1)) (s.nextCycle.routerRead s.cpu.sp)

/-- A RAM byte is in OAM: the one place a DMA writes (20_memory.md R132). -/
def inOam (k : Nat) : Prop := 0xFE00 ≤ k ∧ k < 0xFEA0

/-- The core's registers but for `stopped`, which a button press may clear in any dot (60_exceptions.md R417). -/
def Cpu.SameBut (p q : Cpu) : Prop := q = { p with stopped := q.stopped }

/-! ### The spec's results, on unbounded integers -/

/-- F holds these four flags and nothing else (10_state.md R44, R45). -/
def FlagsAre (f : Byte) (z n h c : Bool) : Prop :=
  f.getLsbD 7 = z ∧ f.getLsbD 6 = n ∧ f.getLsbD 5 = h ∧ f.getLsbD 4 = c ∧ f.toNat % 16 = 0

/-- F.C as a number. -/
def carryIn (f : Byte) : Nat := (f.getLsbD 4).toNat

/-- What an ALU operation leaves in A and F (41_alu8.md R251 to R274), from A, the second operand and the old F. -/
def AluRule (op : AluOp) (a v f a' f' : Byte) : Prop :=
  let x := a.toNat
  let y := v.toNat
  let c := carryIn f
  match op with
  | .add =>
    a'.toNat = (x + y) % 256 ∧
      FlagsAre f' (decide ((x + y) % 256 = 0)) false (decide (x % 16 + y % 16 > 0xF)) (decide (x + y > 0xFF))
  | .adc =>
    a'.toNat = (x + y + c) % 256 ∧
      FlagsAre f' (decide ((x + y + c) % 256 = 0)) false (decide (x % 16 + y % 16 + c > 0xF)) (decide (x + y + c > 0xFF))
  | .sub =>
    a'.toNat = (x + 256 - y) % 256 ∧
      FlagsAre f' (decide (x = y)) true (decide (x % 16 < y % 16)) (decide (x < y))
  | .sbc =>
    a'.toNat = (x + 512 - y - c) % 256 ∧
      FlagsAre f' (decide ((x + 512 - y - c) % 256 = 0)) true (decide (x % 16 < y % 16 + c)) (decide (x < y + c))
  | .and => a' = a &&& v ∧ FlagsAre f' (decide (a &&& v = 0)) false true false
  | .xor => a' = a ^^^ v ∧ FlagsAre f' (decide (a ^^^ v = 0)) false false false
  | .or => a' = a ||| v ∧ FlagsAre f' (decide (a ||| v = 0)) false false false
  | .cp => a' = a ∧ FlagsAre f' (decide (x = y)) true (decide (x % 16 < y % 16)) (decide (x < y))

/-- What INC of a byte leaves: Z, N, H written, C kept (41_alu8.md R275, R276). -/
def IncRule (v f v' f' : Byte) : Prop :=
  v'.toNat = (v.toNat + 1) % 256 ∧
    FlagsAre f' (decide (v.toNat = 255)) false (decide (v.toNat % 16 = 15)) (f.getLsbD 4)

/-- What DEC of a byte leaves: Z, N, H written, C kept (41_alu8.md R277, R278). -/
def DecRule (v f v' f' : Byte) : Prop :=
  v'.toNat = (v.toNat + 255) % 256 ∧
    FlagsAre f' (decide (v.toNat = 1)) true (decide (v.toNat % 16 = 0)) (f.getLsbD 4)

/-- What DAA leaves (41_alu8.md R279): the addition branch adds 0x60 and 0x06, the subtraction branch takes them away. -/
def DaaRule (a f a' f' : Byte) : Prop :=
  let n := f.getLsbD 6
  let h := f.getLsbD 5
  let c := f.getLsbD 4
  let high := if n then c else c || decide (a.toNat > 0x99)
  let x := if n then a.toNat + 256 - (if high then 0x60 else 0) else a.toNat + (if high then 0x60 else 0)
  let low := if n then h else h || decide (x % 16 > 9)
  let y := if n then x + 256 - (if low then 0x06 else 0) else x + (if low then 0x06 else 0)
  a'.toNat = y % 256 ∧ FlagsAre f' (decide (y % 256 = 0)) n false high

/-- The bit a rotate or shift moves out, and bit i of its result (43_rotate_shift_bit.md R315 to R330). -/
def RotRule (op : RotOp) (v : Byte) (c : Bool) (v' : Byte) (co : Bool) : Prop :=
  match op with
  | .rlc => co = v.getLsbD 7 ∧ ∀ i < 8, v'.getLsbD i = if i = 0 then v.getLsbD 7 else v.getLsbD (i - 1)
  | .rrc => co = v.getLsbD 0 ∧ ∀ i < 8, v'.getLsbD i = if i = 7 then v.getLsbD 0 else v.getLsbD (i + 1)
  | .rl => co = v.getLsbD 7 ∧ ∀ i < 8, v'.getLsbD i = if i = 0 then c else v.getLsbD (i - 1)
  | .rr => co = v.getLsbD 0 ∧ ∀ i < 8, v'.getLsbD i = if i = 7 then c else v.getLsbD (i + 1)
  | .sla => co = v.getLsbD 7 ∧ ∀ i < 8, v'.getLsbD i = if i = 0 then false else v.getLsbD (i - 1)
  | .sra => co = v.getLsbD 0 ∧ ∀ i < 8, v'.getLsbD i = if i = 7 then v.getLsbD 7 else v.getLsbD (i + 1)
  | .swap => co = false ∧ ∀ i < 8, v'.getLsbD i = v.getLsbD ((i + 4) % 8)
  | .srl => co = v.getLsbD 0 ∧ ∀ i < 8, v'.getLsbD i = if i = 7 then false else v.getLsbD (i + 1)

/-- A prefixed rotate or shift: Z from the result, N = H = 0, C the bit moved out (43_rotate_shift_bit.md R310). -/
def RotFlagRule (op : RotOp) (v f v' f' : Byte) : Prop :=
  ∃ co, RotRule op v (f.getLsbD 4) v' co ∧ FlagsAre f' (decide (v' = 0)) false false co

/-- The bit set by an 8-bit displacement: its value in [-128, 127] (00_scope.md R18). -/
def signedByte (e : Byte) : Int := if e.toNat < 128 then e.toNat else (e.toNat : Int) - 256

/-! ### The pixel rules -/

/-- Bit b of a tile row's two bytes, the low one at `row`: `2 * hi[b] + lo[b]` (60_exceptions.md R452). -/
def rowPixel (s : State) (row b : Nat) : Nat := 2 * ((s.ram (row + 1)).getLsbD b).toNat + ((s.ram row).getLsbD b).toNat

/-- `bgIndex(x, ly)` from the sampled registers r: 0 with LCDC bit 0 clear, else the pixel of the scrolled map, tile numbers signed from 0x9000
with LCDC bit 4 clear (60_exceptions.md R452). -/
def BackgroundRule (s : State) (r : BgSample) (x n : Nat) : Prop :=
  let column := (r.scx.toNat + x) % 256
  let line := (r.scy.toNat + s.ppu.ly) % 256
  let t := s.ram ((if r.lcdc.getLsbD 3 then 0x9C00 else 0x9800) + 32 * (line / 8) + column / 8)
  let tile : Int := if r.lcdc.getLsbD 4 then 0x8000 + 16 * (t.toNat : Int) else 0x9000 + 16 * signedByte t
  n = if r.lcdc.getLsbD 0 then rowPixel s (tile.toNat + 2 * (line % 8)) (7 - column % 8) else 0

/-- The colour index of a candidate that covers the line, at a column: 0 outside its eight columns; mirrored by attribute bits 5 and 6; tiles
always unsigned from 0x8000 (60_exceptions.md R455). -/
def SpriteRule (s : State) (e : Sprite) (x n : Nat) : Prop :=
  let c := x + 8 - e.x.toNat
  let r := s.ppu.ly + 16 - e.y.toNat
  let row := 0x8000 + 16 * e.tile.toNat + 2 * (if e.attrs.getLsbD 6 then 7 - r else r)
  n = if e.x.toNat ≤ x + 8 ∧ x < e.x.toNat then rowPixel s row (7 - (if e.attrs.getLsbD 5 then 7 - c else c)) else 0

/-- The candidate that wins at a column: not transparent there, and of those the one with the smallest X, of equal X the lowest OAM index
(60_exceptions.md R455). -/
def SpriteWins (s : State) (w : Sprite) (x : Nat) : Prop :=
  w ∈ s.ppu.candidates ∧ s.spriteIndex w x ≠ 0 ∧
    ∀ e ∈ s.ppu.candidates, s.spriteIndex e x ≠ 0 → w.x.toNat < e.x.toNat ∨ (w.x = e.x ∧ w.index ≤ e.index)

/-! ### Groups of instructions -/

/-- Where the stack pushes and the value of the accumulator apart, the instructions that store one byte: the address and the byte, from the
state after the last fetch (40_loads.md R204, R205, R208, R209, R211, R213, R215). -/
inductive StoresByte : Instr → (State → Word) → (State → Byte) → Prop where
  | reg (r : Reg8) : StoresByte (.ldMemReg r) State.hl (fun s => s.cpu.reg r)
  | imm (n : Byte) : StoresByte (.ldMemHlN n) State.hl (fun _ => n)
  | bc : StoresByte .ldMemBcA State.bc (fun s => s.cpu.a)
  | de : StoresByte .ldMemDeA State.de (fun s => s.cpu.a)
  | direct (nn : Word) : StoresByte (.ldMemNnA nn) (fun _ => nn) (fun s => s.cpu.a)
  | high (n : Byte) : StoresByte (.ldhMemNA n) (fun _ => pair 0xFF n) (fun s => s.cpu.a)
  | highC : StoresByte .ldhMemCA (fun s => pair 0xFF s.cpu.c) (fun s => s.cpu.a)

/-- The instructions that load A from one byte: its address (40_loads.md R206, R207, R210, R212, R214). -/
inductive LoadsAcc : Instr → (State → Word) → Prop where
  | bc : LoadsAcc .ldAMemBc State.bc
  | de : LoadsAcc .ldAMemDe State.de
  | direct (nn : Word) : LoadsAcc (.ldAMemNn nn) (fun _ => nn)
  | high (n : Byte) : LoadsAcc (.ldhAMemN n) (fun _ => pair 0xFF n)
  | highC : LoadsAcc .ldhAMemC (fun s => pair 0xFF s.cpu.c)

/-- The instructions whose rules say "Flags: none" (10_state.md R47). -/
inductive Flagless : Instr → Prop where
  | ldReg (dst r : Reg8) : Flagless (.ldReg dst r)
  | ldImm (r : Reg8) (n : Byte) : Flagless (.ldImm r n)
  | ldRegMem (r : Reg8) : Flagless (.ldRegMem r)
  | store {i : Instr} {a : State → Word} {v : State → Byte} (h : StoresByte i a v) : Flagless i
  | load {i : Instr} {a : State → Word} (h : LoadsAcc i a) : Flagless i
  | ldAMemHlInc : Flagless .ldAMemHlInc
  | ldAMemHlDec : Flagless .ldAMemHlDec
  | ldMemHlIncA : Flagless .ldMemHlIncA
  | ldMemHlDecA : Flagless .ldMemHlDecA
  | ldPair (q : Pair) (nn : Word) : Flagless (.ldPair q nn)
  | ldMemNnSp (nn : Word) : Flagless (.ldMemNnSp nn)
  | ldSpHl : Flagless .ldSpHl
  | push (q : StackPair) : Flagless (.push q)
  | pop (q : StackPair) (h : q ≠ .af) : Flagless (.pop q)
  | incPair (q : Pair) : Flagless (.incPair q)
  | decPair (q : Pair) : Flagless (.decPair q)
  | resReg (b : Oct) (r : Reg8) : Flagless (.resReg b r)
  | resMem (b : Oct) : Flagless (.resMem b)
  | setReg (b : Oct) (r : Reg8) : Flagless (.setReg b r)
  | setMem (b : Oct) : Flagless (.setMem b)
  | jp (nn : Word) : Flagless (.jpNn nn)
  | jpIf (k : Cond) (nn : Word) : Flagless (.jpIf k nn)
  | jpHl : Flagless .jpHl
  | jr (e : Byte) : Flagless (.jrE e)
  | jrIf (k : Cond) (e : Byte) : Flagless (.jrIf k e)
  | call (nn : Word) : Flagless (.callNn nn)
  | callIf (k : Cond) (nn : Word) : Flagless (.callIf k nn)
  | ret : Flagless .ret
  | retIf (k : Cond) : Flagless (.retIf k)
  | reti : Flagless .reti
  | rst (y : Oct) : Flagless (.rst y)
  | nop : Flagless .nop
  | halt : Flagless .halt
  | stop : Flagless .stop
  | di : Flagless .di
  | ei : Flagless .ei
  | illegal (u : Undefined) : Flagless (.illegal u)

/-- The condition of a conditional transfer on F (44_control.md R350). -/
def CondRule (k : Cond) (f : Byte) : Prop :=
  match k with
  | .nz => f.getLsbD 7 = false
  | .z => f.getLsbD 7 = true
  | .nc => f.getLsbD 4 = false
  | .c => f.getLsbD 4 = true

/-- The byte of an undefined opcode (30_encoding.md R180). -/
def undefinedByte (u : Undefined) : Byte :=
  match u with
  | .d3 => 0xD3 | .db => 0xDB | .dd => 0xDD | .e3 => 0xE3 | .e4 => 0xE4 | .eb => 0xEB
  | .ec => 0xEC | .ed => 0xED | .f4 => 0xF4 | .fc => 0xFC | .fd => 0xFD

end Sys2Proof.Machine
end

