-- ==== Sys2Proof/Certificates/Slice0/Obligations.lean ====
section
/-! DEFINITION. The statements for the provers. A statement that mentions `queue = []` assumes what `Obligations.StepKeepsBoundary` says every
step leaves; one that mentions a canonical memory assumes what `Obligations.StepKeepsMemory` says. -/

open Sys2Proof Sys2Proof.Machine

/-! ### Encoding -/

/-- Decoding the bytes of any whole instruction, whatever follows them, gives that instruction and leaves what follows. -/
def Obligations.EncodeThenDecode : Prop :=
  ∀ (i : Instr) (rest : List Byte), i.wellFormed = true → decode (encode i ++ rest) = .ok (i, rest)

/-- A decoded instruction's own bytes are the bytes it was decoded from; STOP's second byte, skipped whatever its value, apart. -/
def Obligations.DecodeThenEncode : Prop :=
  ∀ (bs : List Byte) (i : Instr) (rest : List Byte), decode bs = .ok (i, rest) →
    (i ≠ .stop → encode i ++ rest = bs) ∧ (i = .stop → ∃ tail, bs = 0x10 :: tail ∧ rest = tail.drop 1)

/-- Every value of the first byte begins an instruction, and the length is read from that byte alone. -/
def Obligations.EveryOpcodeDecodes : Prop :=
  (∀ (op b1 b2 : Byte) (rest : List Byte), ∃ i tail, decode (op :: b1 :: b2 :: rest) = .ok (i, tail)) ∧
    ∀ i : Instr, i.wellFormed = true →
      ∃ op tail, encode i = op :: tail ∧ (i ≠ .stop → fetchedBytes op = (encode i).length) ∧
        (i = .stop → fetchedBytes op = 1 ∧ (encode i).length = 2)

/-- Words written out from the encodings of 40_loads.md to 45_system.md decode to their instructions. -/
def Obligations.WrittenWordsDecode : Prop :=
  decode [0b01000001] = .ok (.ldBC, []) ∧ decode [0b00001110, 0x5A] = .ok (.ldCN 0x5A, []) ∧
    decode [0b00110001, 0xFF, 0xDF] = .ok (.ldSpNn 0xDFFF, []) ∧ decode [0b10001110] = .ok (.adcAMemHl, []) ∧
    decode [0b00101001] = .ok (.addHlHl, []) ∧ decode [0b11001011, 0b00110111] = .ok (.swapA, []) ∧
    decode [0b11001011, 0b01111100] = .ok (.bit7H, []) ∧ decode [0b11001100, 0x34, 0x12] = .ok (.callZNn 0x1234, []) ∧
    decode [0b11111111] = .ok (.rst38, []) ∧ decode [0b01110110] = .ok (.halt, []) ∧ decode [0b11010011] = .ok (.illegalD3, [])

/-! ### The step, fetching and time -/

/-- Where the boundary starts an instruction and the fetched bytes decode to i, the step is exec of i in the state after the fetch, then the
end of its last machine cycle and of the run's marks. -/
def Obligations.StepRunsDecodedInstruction : Prop :=
  ∀ (s t : State) (i : Instr) (rest : List Byte), s.Live → s.beginCycle.boundary = (.instruction, t) →
    decode t.fetchInstr.1 = .ok (i, rest) → step s = finish (exec i t.fetchInstr.2)

/-- Fetching. The opcode byte is read through the router at PC in this machine cycle; PC advances by 1, except that the halt bug suppresses exactly
that advance and is cleared; a later byte is read at PC in the next machine cycle and always advances PC; as many bytes are fetched as the
first one says; nothing else of the machine changes but the bookkeeping of the fetch. -/
def Obligations.Fetching : Prop :=
  ∀ s : State, s.sched.queue = [] →
    (∃ n, s.fetchOpcode =
      { (State.markFatal (s.readFatal s.cpu.pc) s) with
        cpu := { s.cpu with pc := if s.cpu.haltBug then s.cpu.pc else s.cpu.pc + 1, haltBug := false }
        sched := { s.sched with latch := s.routerRead s.cpu.pc, instrAddr := s.cpu.pc, remaining := n } }) ∧
      s.fetchNext = { s.afterRead s.cpu.pc with cpu := { s.nextCycle.cpu with pc := s.cpu.pc + 1 } } ∧
      s.fetchInstr.1.length = fetchedBytes (s.routerRead s.cpu.pc) ∧ s.fetchInstr.1.head? = some (s.routerRead s.cpu.pc)
/-- With nothing else scheduled, an access at the next offset reaches the router in the next machine cycle, on the state of that cycle: a read
delivers the router's answer, a write hands its byte over. -/
def Obligations.AccessesFallInTheirCycle : Prop :=
  ∀ (a : Word) (v : Byte) (s : State), s.sched.queue = [] →
    s.readNext a = s.afterRead a ∧ s.writeNext a v = s.afterWrite a v

/-- What a machine cycle without an access of the core changes: not the core (but `stopped`), no byte of RAM outside OAM and none at all
without a DMA, not the cartridge, no register or bit that only software writes (the DMA register and SC bits 1 and 0 among them); it counts
itself. -/
def Obligations.CyclesKeep : Prop :=
  ∀ s : State, Memory.wf Config.ramBlank s.mem →
    s.cpu.SameBut s.nextCycle.cpu ∧ (s.cpu.stopped = false → s.nextCycle.cpu = s.cpu) ∧
      (∀ k, ¬ inOam k → s.nextCycle.ram k = s.ram k) ∧ (s.dma.active = false → s.nextCycle.mem = s.mem) ∧
      s.nextCycle.sched = { s.sched with mcycle := s.sched.mcycle + 1, remaining := s.sched.remaining - 1 } ∧
      s.nextCycle.cart = s.cart ∧ s.nextCycle.sound = s.sound ∧ s.nextCycle.svbk = s.svbk ∧ s.nextCycle.key1 = s.key1 ∧
      s.nextCycle.irq.enable = s.irq.enable ∧ s.nextCycle.timer.tma = s.timer.tma ∧ s.nextCycle.timer.tac = s.timer.tac ∧
      s.nextCycle.joypad.sel = s.joypad.sel ∧ s.nextCycle.ppu.lcdc = s.ppu.lcdc ∧ s.nextCycle.ppu.statSel = s.ppu.statSel ∧
      s.nextCycle.ppu.scy = s.ppu.scy ∧ s.nextCycle.ppu.scx = s.ppu.scx ∧ s.nextCycle.ppu.lyc = s.ppu.lyc ∧
      s.nextCycle.ppu.bgp = s.ppu.bgp ∧ s.nextCycle.ppu.obp0 = s.ppu.obp0 ∧ s.nextCycle.ppu.obp1 = s.ppu.obp1 ∧
      s.nextCycle.ppu.wy = s.ppu.wy ∧ s.nextCycle.ppu.wx = s.ppu.wx ∧ s.nextCycle.dma.reg = s.dma.reg ∧
      s.nextCycle.serial.fast = s.serial.fast ∧ s.nextCycle.serial.clock = s.serial.clock

/-- A write through the router changes no register of the core, not the core's bookkeeping, and no byte of RAM but the one it addresses. -/
def Obligations.WriteFrame : Prop :=
  ∀ (a : Word) (v : Byte) (s : State), Memory.wf Config.ramBlank s.mem →
    (s.routerWrite a v).cpu = s.cpu ∧ (s.routerWrite a v).sched = s.sched ∧
      (∀ k, k ≠ s.ramKey (fold a.toNat) → (s.routerWrite a v).ram k = s.ram k) ∧
      (owner (fold a.toNat) ≠ .io → owner (fold a.toNat) ≠ .ie →
        (s.routerWrite a v).irq = s.irq ∧ (s.routerWrite a v).timer = s.timer ∧ (s.routerWrite a v).serial = s.serial ∧
          (s.routerWrite a v).joypad = s.joypad ∧ (s.routerWrite a v).ppu = s.ppu ∧ (s.routerWrite a v).dma = s.dma ∧
          (s.routerWrite a v).key1 = s.key1 ∧ (s.routerWrite a v).svbk = s.svbk ∧ (s.routerWrite a v).sound = s.sound)

/-! ### The boundary and interrupts -/

/-- A frozen core: the boundary starts nothing, and a step leaves every register of the core as it is. -/
def Obligations.FrozenStays : Prop :=
  ∀ s : State, s.cpu.frozen ≠ none →
    s.boundary = (.nothing, s) ∧
      (s.cpu.stopped = false → ∀ t, step s = .next t → t.cpu = s.cpu ∧ t.sched = { s.sched with mcycle := s.sched.mcycle + 1 })

/-- The deferred enable: a boundary that begins with eiDelay > 0 decrements it and sets IME on reaching 0, before its interrupt check; idle
boundaries too. -/
def Obligations.DeferredEnable : Prop :=
  ∀ s : State, s.cpu.frozen = none →
    s.boundary.2.cpu =
      { s.cpu with
        eiDelay := if s.cpu.eiDelay = 0 then 0 else s.cpu.eiDelay - 1
        ime := if s.cpu.eiDelay = 1 then true else s.cpu.ime
        halted := if s.cpu.stopped = false ∧ s.pending ≠ 0 then false else s.cpu.halted }

/-- Stopped: idle whatever IE and IF hold. Halted with nothing pending: idle. Halted with something pending: awake, whatever IME is. -/
def Obligations.LowPowerBoundary : Prop :=
  ∀ s : State, s.cpu.frozen = none →
    (s.cpu.stopped = true → s.boundary.1 = .idle) ∧
      (s.cpu.halted = true → s.pending = 0 → s.boundary.1 = .idle) ∧
      (s.cpu.stopped = false → s.cpu.halted = true → s.pending ≠ 0 → s.boundary.1 ≠ .idle ∧ s.boundary.2.cpu.halted = false)

/-- With IME 1 and a line pending the boundary dispatches the lowest-numbered one; with IME 0 or nothing pending it fetches. IME is the one
the deferred enable leaves. -/
def Obligations.BoundaryDispatchesLowest : Prop :=
  ∀ s : State, s.cpu.frozen = none → s.cpu.stopped = false →
    (∀ k : Line, (s.cpu.ime = true ∨ s.cpu.eiDelay = 1) → s.pending.getLsbD k.index = true →
      (∀ j < k.index, s.pending.getLsbD j = false) → s.boundary.1 = .dispatch k) ∧
      ((s.cpu.ime = false ∧ s.cpu.eiDelay ≠ 1 ∨ s.pending = 0) → (s.cpu.halted = true → s.pending ≠ 0) →
        s.boundary.1 = .instruction)

/-- Taking an interrupt: the line's IF bit and IME are cleared at offset 0, the return address is pushed at offsets 2 and 3 (PC - 1 if the
halt bug is pending), PC becomes 0x0040 + 8 k; five machine cycles, of which the first is the current one. -/
def Obligations.InterruptDispatch : Prop :=
  ∀ (k : Line) (s : State), s.sched.queue = [] → s.cpu.stopped = false →
    let r := if s.cpu.haltBug then s.cpu.pc - 1 else s.cpu.pc
    let c := { s.cpu with ime := false, eiDelay := 0, haltBug := false }
    let s0 : State :=
      { s with
        cpu := c
        irq := { s.irq with flags := s.irq.flags &&& ~~~(BitVec.ofNat 5 (2 ^ k.index)) }
        sched := { s.sched with remaining := 4 } }
    s.takeInterrupt k = ((s0.nextCycle.afterPush r).nextCycle).setPc (BitVec.ofNat 16 (0x40 + 8 * k.index)) ∧
      (s.takeInterrupt k).cpu = { c with sp := s.cpu.sp - 2, pc := BitVec.ofNat 16 (0x40 + 8 * k.index) } ∧
      (s.takeInterrupt k).sched.mcycle = s.sched.mcycle + 4

/-! ### Loads and stores -/

/-- `LD r, r'`, `LD r, n` and `LD rr, nn`: the destination takes the value, every other register and all else of the machine stays. -/
def Obligations.RegisterLoads : Prop :=
  ∀ s : State,
    (∀ dst r : Reg8, exec (.ldReg dst r) s = .next { s with cpu := s.cpu.setReg dst (s.cpu.reg r) }) ∧
      (∀ (dst : Reg8) (n : Byte), exec (.ldImm dst n) s = .next { s with cpu := s.cpu.setReg dst n }) ∧
      (∀ (q : Pair) (nn : Word), exec (.ldPair q nn) s = .next { s with cpu := s.cpu.setPair q nn })

/-- Writing a register or a pair: what was written reads back, every other register is unchanged, a pair is its two halves, the first-named one
high; AF too, whose low byte keeps bits 7:4 only. -/
def Obligations.RegisterFile : Prop :=
  ∀ p : Cpu,
    (∀ (dst r : Reg8) (v : Byte), (p.setReg dst v).reg r = if r = dst then v else p.reg r) ∧
      (∀ (dst : Reg8) (v : Byte), p.setReg dst v = { p.setReg dst v with
        f := p.f, sp := p.sp, pc := p.pc, ime := p.ime, eiDelay := p.eiDelay, halted := p.halted, haltBug := p.haltBug
        stopped := p.stopped, frozen := p.frozen }) ∧
      (∀ (q : Pair) (w : Word), (p.setPair q w).pairReg q = w) ∧
      (∀ q r : Pair, ∀ w : Word, r ≠ q → (p.setPair q w).pairReg r = p.pairReg r) ∧
      (p.pairReg .bc).toNat = 256 * p.b.toNat + p.c.toNat ∧ (p.pairReg .de).toNat = 256 * p.d.toNat + p.e.toNat ∧
      (p.pairReg .hl).toNat = 256 * p.h.toNat + p.l.toNat ∧ p.pairReg .sp = p.sp ∧
      (p.stackPair .af).toNat = 256 * p.a.toNat + p.f.toNat ∧
      (∀ w : Word, p.setStackPair .af w = { p with a := hi w, f := lo w &&& 0xF0 }) ∧
      ∀ q : StackPair, ∀ w : Word, q ≠ .af → (p.setStackPair q w).stackPair q = w

/-- The one-byte loads: `LD r, (HL)`; A through BC, DE, an absolute address and the high page; A at HL with HL then moving by one, wrapping. The
byte is the router's answer for the address in the next machine cycle; no other register changes. -/
def Obligations.OneByteLoads : Prop :=
  ∀ s : State, s.sched.queue = [] → s.cpu.stopped = false →
    let x := s.nextCycle.routerRead s.hl
    (∀ r : Reg8, exec (.ldRegMem r) s = .next { s.afterRead s.hl with cpu := s.cpu.setReg r x }) ∧
      (∀ (i : Instr) (a : State → Word), LoadsAcc i a →
        exec i s = .next { s.afterRead (a s) with cpu := { s.cpu with a := s.nextCycle.routerRead (a s) } }) ∧
      exec .ldAMemHlInc s = .next { s.afterRead s.hl with cpu := { (s.cpu.setPair .hl (s.hl + 1)) with a := x } } ∧
      exec .ldAMemHlDec s = .next { s.afterRead s.hl with cpu := { (s.cpu.setPair .hl (s.hl - 1)) with a := x } }
/-- The one-byte stores: the byte reaches the router at the instruction's address in the next machine cycle; no register of the core changes, but
HL, which the forms with `(HL+)` and `(HL-)` move by one, wrapping; and, OAM under a DMA apart, no byte of RAM but the one addressed, which
in work RAM and HRAM takes the byte. -/
def Obligations.OneByteStores : Prop :=
  ∀ s : State, s.sched.queue = [] → s.cpu.stopped = false →
    (∀ (i : Instr) (a : State → Word) (v : State → Byte), StoresByte i a v → exec i s = .next (s.afterWrite (a s) (v s))) ∧
      exec .ldMemHlIncA s = .next { s.afterWrite s.hl s.cpu.a with cpu := s.cpu.setPair .hl (s.hl + 1) } ∧
      exec .ldMemHlDecA s = .next { s.afterWrite s.hl s.cpu.a with cpu := s.cpu.setPair .hl (s.hl - 1) } ∧
      (Memory.wf Config.ramBlank s.mem → ∀ (a : Word) (v : Byte),
        (s.afterWrite a v).cpu = s.cpu ∧
          (∀ k, k ≠ s.ramKey (fold a.toNat) → (inOam k → s.dma.active = false) → (s.afterWrite a v).ram k = s.ram k) ∧
          (owner (fold a.toNat) = .workRam ∨ owner (fold a.toNat) = .hram →
            (s.afterWrite a v).ram (s.ramKey (fold a.toNat)) = v))
/-- `LD (nn), SP`: the low byte at nn, then the high byte at nn + 1, in two machine cycles; and `LD SP, HL`. No other register changes. -/
def Obligations.StackPointerLoads : Prop :=
  ∀ s : State, s.sched.queue = [] → s.cpu.stopped = false →
    (∀ nn : Word,
      exec (.ldMemNnSp nn) s = .next ((s.afterWrite nn (lo s.cpu.sp)).afterWrite (nn + 1) (hi s.cpu.sp)) ∧
        ((s.afterWrite nn (lo s.cpu.sp)).afterWrite (nn + 1) (hi s.cpu.sp)).cpu = s.cpu) ∧
      exec .ldSpHl s = .next { s.nextCycle with cpu := { s.cpu with sp := s.hl } }

/-- PUSH: an internal cycle, then the high byte at SP - 1 and the low byte at SP - 2; SP decreases by 2, no other register changes. The two cycles
of any push leave every other byte of RAM as it was (OAM, if no DMA is under way in them). -/
def Obligations.PushPair : Prop :=
  ∀ (q : StackPair) (s : State), s.sched.queue = [] → s.cpu.stopped = false → Memory.wf Config.ramBlank s.mem →
    exec (.push q) s = .next (s.nextCycle.afterPush (s.cpu.stackPair q)) ∧
      (s.nextCycle.afterPush (s.cpu.stackPair q)).cpu = { s.cpu with sp := s.cpu.sp - 2 } ∧
      ∀ (w : Word) (k : Nat),
        let u := (s.setSp (s.cpu.sp - 1)).afterWrite (s.cpu.sp - 1) (hi w)
        k ≠ s.ramKey (fold (s.cpu.sp - 1).toNat) → k ≠ u.ramKey (fold (s.cpu.sp - 2).toNat) →
          (inOam k → s.dma.active = false ∧ u.dma.active = false) → (s.afterPush w).ram k = s.ram k

/-- POP: the low byte at SP, the high byte at SP + 1; SP increases by 2; POP AF keeps bits 7:4 of the low byte as F and clears its bits 3:0. -/
def Obligations.PopPair : Prop :=
  ∀ (q : StackPair) (s : State), s.sched.queue = [] → s.cpu.stopped = false →
    exec (.pop q) s = .next { s.afterPop with cpu := ({ s.cpu with sp := s.cpu.sp + 2 } : Cpu).setStackPair q s.popped } ∧
      (s.cpu.setStackPair .af s.popped).a = hi s.popped ∧ (s.cpu.setStackPair .af s.popped).f = lo s.popped &&& 0xF0

/-! ### Arithmetic and logic -/

/-- The eight ALU operations on a register, an immediate and the byte at HL (read in the next machine cycle): A and F take what the spec's rule
gives, all else of the machine stays, the passing of that cycle apart. -/
def Obligations.AluOperations : Prop :=
  ∀ (op : AluOp) (s : State),
    (∀ r : Reg8, ∃ a f, exec (.aluReg op r) s = .next { s with cpu := { s.cpu with a := a, f := f } } ∧
      AluRule op s.cpu.a (s.cpu.reg r) s.cpu.f a f) ∧
      (∀ n : Byte, ∃ a f, exec (.aluImm op n) s = .next { s with cpu := { s.cpu with a := a, f := f } } ∧
        AluRule op s.cpu.a n s.cpu.f a f) ∧
      (s.sched.queue = [] → s.cpu.stopped = false →
        ∃ a f, exec (.aluMem op) s = .next { s.afterRead s.hl with cpu := { s.cpu with a := a, f := f } } ∧
          AluRule op s.cpu.a (s.nextCycle.routerRead s.hl) s.cpu.f a f)
/-- The laws of the ALU family: for every a, v and carry c the add half-carry is bit 4 of a ^ v ^ (a + v + c), the subtract one bit 4 of
a ^ v ^ (a - v - c); AND and OR of A with itself keep A and set Z exactly when it is 0; XOR of A with itself gives 0 and F = 0x80; CP is SUB
that keeps A; ADC with C = 0 is ADD. -/
def Obligations.HalfCarryLaws : Prop :=
  ∀ (a v f : Byte) (c : Bool),
    (addByte a v c).flags.getLsbD 5 = (a ^^^ v ^^^ (a + v + BitVec.ofNat 8 c.toNat)).getLsbD 4 ∧
      (subByte a v c).flags.getLsbD 5 = (a ^^^ v ^^^ (a - v - BitVec.ofNat 8 c.toNat)).getLsbD 4 ∧
      (aluByte .add a v f = addByte a v false ∧ aluByte .adc a v f = addByte a v (f.getLsbD 4) ∧
        aluByte .sub a v f = subByte a v false ∧ aluByte .sbc a v f = subByte a v (f.getLsbD 4)) ∧
      (f.getLsbD 4 = false → aluByte .adc a v f = aluByte .add a v f) ∧
      (aluByte .cp a v f).flags = (aluByte .sub a v f).flags ∧ (aluByte .cp a v f).value = a ∧
      aluByte .xor a a f = { value := 0, flags := 0x80 } ∧ (aluByte .and a a f).value = a ∧ (aluByte .or a a f).value = a ∧
      ((aluByte .and a a f).flags.getLsbD 7 = true ↔ a = 0) ∧ ((aluByte .or a a f).flags.getLsbD 7 = true ↔ a = 0)

/-- INC and DEC of a register and of the byte at HL (a read in the next machine cycle, the write in the one after it): C is unchanged, no
other register changes. -/
def Obligations.IncDecByte : Prop :=
  ∀ s : State,
    (∀ r : Reg8,
      (∃ v f, exec (.incReg r) s = .next { s with cpu := { s.cpu.setReg r v with f := f } } ∧ IncRule (s.cpu.reg r) s.cpu.f v f) ∧
        ∃ v f, exec (.decReg r) s = .next { s with cpu := { s.cpu.setReg r v with f := f } } ∧
          DecRule (s.cpu.reg r) s.cpu.f v f) ∧
      (s.sched.queue = [] → s.cpu.stopped = false →
        (∃ v f, exec .incMemHl s = .next (({ s.afterRead s.hl with cpu := { s.cpu with f := f } } : State).afterWrite s.hl v) ∧
          IncRule (s.nextCycle.routerRead s.hl) s.cpu.f v f) ∧
          ∃ v f, exec .decMemHl s = .next (({ s.afterRead s.hl with cpu := { s.cpu with f := f } } : State).afterWrite s.hl v) ∧
            DecRule (s.nextCycle.routerRead s.hl) s.cpu.f v f)
/-- DAA for every A and F, valid BCD or not; its encoding is `00100111`, one byte, and nothing but A and F changes: it takes no machine cycle
beyond its fetch. -/
def Obligations.DecimalAdjust : Prop :=
  decode [0b00100111] = .ok (.daa, []) ∧ primaryCycles 0b00100111 0 = 1 ∧
    ∀ s : State, ∃ a f, exec .daa s = .next { s with cpu := { s.cpu with a := a, f := f } } ∧ DaaRule s.cpu.a s.cpu.f a f

/-- DAA after a BCD addition gives the BCD sum, with the carry of the sum; after a BCD subtraction the BCD difference. -/
def Obligations.DecimalAdjustIsDecimal : Prop :=
  ∀ x y : Fin 100,
    let bcd (n : Nat) : Byte := BitVec.ofNat 8 (16 * (n / 10 % 10) + n % 10)
    let sum := addByte (bcd x) (bcd y) false
    let diff := subByte (bcd x) (bcd y) false
    (daaByte sum.value sum.flags).value = bcd ((x.val + y.val) % 100) ∧
      flagC (daaByte sum.value sum.flags).flags = decide (100 ≤ x.val + y.val) ∧
      (daaByte diff.value diff.flags).value = bcd ((x.val + 100 - y.val) % 100)

/-- CPL, SCF, CCF: the flags each writes, and no other; only CPL changes A. -/
def Obligations.ComplementAndCarry : Prop :=
  ∀ s : State,
    (∃ f, exec .cpl s = .next { s with cpu := { s.cpu with a := ~~~s.cpu.a, f := f } } ∧
      FlagsAre f (s.cpu.f.getLsbD 7) true true (s.cpu.f.getLsbD 4)) ∧
      (∃ f, exec .scf s = .next { s with cpu := { s.cpu with f := f } } ∧ FlagsAre f (s.cpu.f.getLsbD 7) false false true) ∧
      ∃ f, exec .ccf s = .next { s with cpu := { s.cpu with f := f } } ∧
        FlagsAre f (s.cpu.f.getLsbD 7) false false (!s.cpu.f.getLsbD 4)

/-- `ADD HL, rr`: the wrapped sum, Z unchanged, H out of bit 11, C out of bit 15, and the bit-decomposition method gives the same flags; `INC rr`
and `DEC rr` move the pair by one, wrapping, and write no flag. One internal cycle each, no other register changes. -/
def Obligations.PairArithmetic : Prop :=
  (∀ (q : Pair) (s : State), s.cpu.stopped = false →
    (∃ w f, exec (.addHlPair q) s = .next { s.nextCycle with cpu := { s.cpu.setPair .hl w with f := f } } ∧
      w.toNat = (s.hl.toNat + (s.cpu.pairReg q).toNat) % 65536 ∧
      FlagsAre f (s.cpu.f.getLsbD 7) false (decide (s.hl.toNat % 4096 + (s.cpu.pairReg q).toNat % 4096 > 0xFFF))
        (decide (s.hl.toNat + (s.cpu.pairReg q).toNat > 0xFFFF))) ∧
      exec (.incPair q) s = .next { s.nextCycle with cpu := s.cpu.setPair q (s.cpu.pairReg q + 1) } ∧
      exec (.decPair q) s = .next { s.nextCycle with cpu := s.cpu.setPair q (s.cpu.pairReg q - 1) }) ∧
    ∀ a b : Word, carry12 a.toNat b.toNat = (a ^^^ b ^^^ (a + b)).getLsbD 12 ∧
      carry16 a.toNat b.toNat = (a.toNat + b.toNat).testBit 16
/-- `ADD SP, e` and `LD HL, SP+e`: the same 16-bit result and the same F, flags from the low byte of SP and the byte pattern of e. -/
def Obligations.StackPointerPlusDisplacement : Prop :=
  ∀ (e : Byte) (s : State), s.cpu.stopped = false →
    ∃ w f, exec (.addSpE e) s = .next { s.nextCycle.nextCycle with cpu := { s.cpu with sp := w, f := f } } ∧
      exec (.ldHlSpE e) s = .next { s.nextCycle with cpu := { s.cpu.setPair .hl w with f := f } } ∧
      (w.toNat : Int) = ((s.cpu.sp.toNat : Int) + signedByte e) % 65536 ∧
      FlagsAre f false false (decide (s.cpu.sp.toNat % 16 + e.toNat % 16 > 0xF)) (decide (s.cpu.sp.toNat % 256 + e.toNat > 0xFF))

/-! ### Rotates, shifts and bits -/

/-- Rotates and shifts: the accumulator forms (Z always 0), the prefixed forms on a register and on the byte at HL (Z from the result; read in
the next machine cycle, written in the one after it); no other register changes. RLA and RRA of A = 0x00 with the old C at 1 are the model's
choice, log entry 23 (DEDUCED): the old C moves into A and C becomes 0, as the pseudocode has it, against the corner-case sentence. -/
def Obligations.Rotates : Prop :=
  ∀ (op : RotOp) (s : State),
    (∀ r : Reg8, ∃ v f, exec (.rotReg op r) s = .next { s with cpu := { s.cpu.setReg r v with f := f } } ∧
      RotFlagRule op (s.cpu.reg r) s.cpu.f v f) ∧
      (∀ i, (op, i) ∈ [(RotOp.rlc, Instr.rlca), (.rrc, .rrca), (.rl, .rla), (.rr, .rra)] →
        ∃ v f co, exec i s = .next { s with cpu := { s.cpu with a := v, f := f } } ∧
          RotRule op s.cpu.a (s.cpu.f.getLsbD 4) v co ∧ FlagsAre f false false false co) ∧
      (s.sched.queue = [] → s.cpu.stopped = false →
        ∃ v f, exec (.rotMem op) s = .next (({ s.afterRead s.hl with cpu := { s.cpu with f := f } } : State).afterWrite s.hl v) ∧
          RotFlagRule op (s.nextCycle.routerRead s.hl) s.cpu.f v f)
/-- BIT, RES and SET on a register and on the byte at HL: BIT writes Z, N and H only; RES and SET change the one bit and no flag; on the byte at
HL, BIT only reads, RES and SET read and then write in the next machine cycle. -/
def Obligations.Bits : Prop :=
  ∀ (b : Oct) (s : State),
    let cleared (x v : Byte) : Prop := ∀ i < 8, v.getLsbD i = if i = b.toNat then false else x.getLsbD i
    let put (x v : Byte) : Prop := ∀ i < 8, v.getLsbD i = if i = b.toNat then true else x.getLsbD i
    (∀ r : Reg8,
      (∃ f, exec (.bitReg b r) s = .next { s with cpu := { s.cpu with f := f } } ∧
        FlagsAre f (!(s.cpu.reg r).getLsbD b.toNat) false true (s.cpu.f.getLsbD 4)) ∧
        (∃ v, exec (.resReg b r) s = .next { s with cpu := s.cpu.setReg r v } ∧ cleared (s.cpu.reg r) v) ∧
        ∃ v, exec (.setReg b r) s = .next { s with cpu := s.cpu.setReg r v } ∧ put (s.cpu.reg r) v) ∧
      (s.sched.queue = [] → s.cpu.stopped = false →
        let x := s.nextCycle.routerRead s.hl
        (∃ f, exec (.bitMem b) s = .next { s.afterRead s.hl with cpu := { s.cpu with f := f } } ∧
          FlagsAre f (!x.getLsbD b.toNat) false true (s.cpu.f.getLsbD 4)) ∧
          (∃ v, exec (.resMem b) s = .next ((s.afterRead s.hl).afterWrite s.hl v) ∧ cleared x v) ∧
          ∃ v, exec (.setMem b) s = .next ((s.afterRead s.hl).afterWrite s.hl v) ∧ put x v)
/-! ### Control transfers and system instructions -/

/-- The jumps: PC takes the target after one internal cycle (`JP HL`: at once); a conditional one not taken changes nothing. No flag, no
other register, no memory. -/
def Obligations.Jumps : Prop :=
  ∀ s : State, s.cpu.stopped = false →
    (∀ nn, exec (.jpNn nn) s = .next { s.nextCycle with cpu := { s.cpu with pc := nn } }) ∧
      exec .jpHl s = .next { s with cpu := { s.cpu with pc := s.hl } } ∧
      (∀ e, exec (.jrE e) s = .next { s.nextCycle with cpu := { s.cpu with pc := s.cpu.pc + sext e } }) ∧
      (∀ k nn, (CondRule k s.cpu.f → exec (.jpIf k nn) s = .next { s.nextCycle with cpu := { s.cpu with pc := nn } }) ∧
        (¬ CondRule k s.cpu.f → exec (.jpIf k nn) s = .next s)) ∧
      (∀ k e, (CondRule k s.cpu.f →
          exec (.jrIf k e) s = .next { s.nextCycle with cpu := { s.cpu with pc := s.cpu.pc + sext e } }) ∧
        (¬ CondRule k s.cpu.f → exec (.jrIf k e) s = .next s)) ∧
      ∀ e : Byte, ((s.cpu.pc + sext e).toNat : Int) = ((s.cpu.pc.toNat : Int) + signedByte e) % 65536

/-- CALL, CALL cc and RST: PC is pushed after one internal cycle and takes the target; SP decreases by 2; a CALL cc not taken changes
nothing. -/
def Obligations.Calls : Prop :=
  ∀ s : State, s.sched.queue = [] → s.cpu.stopped = false →
    let called (w : Word) : State :=
      { s.nextCycle.afterPush s.cpu.pc with cpu := { s.cpu with sp := s.cpu.sp - 2, pc := w } }
    (∀ nn, exec (.callNn nn) s = .next (called nn)) ∧
      (∀ k nn, (CondRule k s.cpu.f → exec (.callIf k nn) s = .next (called nn)) ∧
        (¬ CondRule k s.cpu.f → exec (.callIf k nn) s = .next s)) ∧
      ∀ y : Oct, exec (.rst y) s = .next (called (BitVec.ofNat 16 (8 * y.toNat)))

/-- RET, RET cc and RETI: PC is popped, SP increases by 2, no flag and no other register changes; RET cc has one internal cycle more, and not
taken it changes nothing but that; RETI sets IME at once and cancels the EI delay. -/
def Obligations.Returns : Prop :=
  ∀ s : State, s.sched.queue = [] → s.cpu.stopped = false →
    let returned (u : State) : State := { u.afterPop.nextCycle with cpu := { s.cpu with sp := s.cpu.sp + 2, pc := u.popped } }
    exec .ret s = .next (returned s) ∧
      (∀ k, (CondRule k s.cpu.f → exec (.retIf k) s = .next (returned s.nextCycle)) ∧
        (¬ CondRule k s.cpu.f → exec (.retIf k) s = .next s.nextCycle)) ∧
      exec .reti s =
        .next { s.afterPop.nextCycle with cpu := { s.cpu with sp := s.cpu.sp + 2, pc := s.popped, ime := true, eiDelay := 0 } }
/-- NOP changes nothing; DI clears IME and the EI delay; EI arms the delay where IME and the delay are 0, and else changes nothing; HALT halts or,
with IME 0 and an interrupt pending and enabled, sets the halt bug. -/
def Obligations.NopDiEiHalt : Prop :=
  ∀ s : State,
    exec .nop s = .next s ∧ exec .di s = .next { s with cpu := { s.cpu with ime := false, eiDelay := 0 } } ∧
      (s.cpu.ime = false → s.cpu.eiDelay = 0 → exec .ei s = .next { s with cpu := { s.cpu with eiDelay := 2 } }) ∧
      (s.cpu.ime = true ∨ s.cpu.eiDelay ≠ 0 → exec .ei s = .next s) ∧
      (s.cpu.ime = true ∨ s.pending = 0 → exec .halt s = .next { s with cpu := { s.cpu with halted := true } }) ∧
      (s.cpu.ime = false → s.pending ≠ 0 → exec .halt s = .next { s with cpu := { s.cpu with haltBug := true } })
/-- STOP: PC skips the second byte; with KEY1 bit 0 = 0 the core stops and the divider is reset as by a write to DIV; with it 1 the run is
refused. -/
def Obligations.Stop : Prop :=
  ∀ s : State,
    (s.key1 = false →
      exec .stop s = .next (({ s with cpu := { s.cpu with pc := s.cpu.pc + 1, stopped := true } } : State).routerWrite 0xFF04 0)) ∧
      (s.key1 = true → ∃ t, exec .stop s = .next t ∧ (s.Live → finish (.next t) = .refused (.unmodelled .doubleSpeed)))

/-- An undefined opcode freezes the core: the record names it and the address it was fetched from; nothing else changes. -/
def Obligations.UndefinedOpcodeFreezes : Prop :=
  ∀ (u : Undefined) (s : State),
    exec (.illegal u) s =
        .next { s with cpu := { s.cpu with frozen := some { opcode := undefinedByte u, addr := s.sched.instrAddr } } } ∧
      decode [undefinedByte u] = .ok (.illegal u, [])

/-- The bare prefix fetches the second byte in the next machine cycle and then does what the prefixed instruction it selects does. -/
def Obligations.PrefixRunsSelected : Prop :=
  ∀ s : State, s.sched.queue = [] →
    ∃ j t, prefixedInstr (s.nextCycle.routerRead s.cpu.pc) = some j ∧
      exec .prefixCb s = exec j (s.fetchNext.setRemaining (prefixedCycles (s.nextCycle.routerRead s.cpu.pc) - 2)) ∧
      exec .prefixCb s = .next t

/-! ### Rules over all instructions -/

/-- IME is cleared by no instruction but DI and set by no instruction but RETI; no instruction starts the EI delay but EI. -/
def Obligations.ImeChanges : Prop :=
  ∀ (i : Instr) (s t : State), exec i s = .next t →
    (i ≠ .di → s.cpu.ime = true → t.cpu.ime = true) ∧ (i ≠ .reti → s.cpu.ime = false → t.cpu.ime = false) ∧
      (i ≠ .ei → t.cpu.eiDelay = s.cpu.eiDelay ∨ t.cpu.eiDelay = 0)

/-- The instructions whose rules say "Flags: none" leave F unchanged. -/
def Obligations.FlaglessKeepFlags : Prop :=
  ∀ (i : Instr) (s t : State), Flagless i → exec i s = .next t → t.cpu.f = s.cpu.f

/-! ### Router -/

/-- The mirror 0xE000-0xFDFF: every read and every write is one of the address minus 0x2000. Blocked windows: video RAM in LCD_TRANSFER with the
display on; OAM under a DMA, or in OAM_SEARCH and LCD_TRANSFER with the display on; a blocked read gives 0xFF and a blocked write changes
nothing. 0xFEA0-0xFEFF reads 0x00 and ignores writes. -/
def Obligations.RouterWindows : Prop :=
  ∀ (a : Word) (v : Byte) (s : State),
    (0xE000 ≤ a.toNat → a.toNat < 0xFE00 →
      s.routerRead a = s.routerRead (a - 0x2000) ∧ s.routerWrite a v = s.routerWrite (a - 0x2000) v) ∧
      (0x8000 ≤ a.toNat → a.toNat < 0xA000 → s.ppu.lcdOn = true → s.ppu.mode = .lcdTransfer →
        s.routerRead a = 0xFF ∧ s.routerWrite a v = s) ∧
      (0xFE00 ≤ a.toNat → a.toNat < 0xFEA0 →
        s.dma.active = true ∨ (s.ppu.lcdOn = true ∧ (s.ppu.mode = .oamSearch ∨ s.ppu.mode = .lcdTransfer)) →
        s.routerRead a = 0xFF ∧ s.routerWrite a v = s) ∧
      (0xFEA0 ≤ a.toNat → a.toNat < 0xFF00 → s.routerRead a = 0x00 ∧ s.routerWrite a v = s)
/-- Plain storage: a byte written to work RAM, HRAM or IE reads back at once, unblocked video RAM and OAM likewise; other addresses of the
plain ranges read as before. -/
def Obligations.ReadAfterWrite : Prop :=
  ∀ (a b : Word) (v : Byte) (s : State), Memory.wf Config.ramBlank s.mem →
    let o := owner (fold a.toNat)
    (o = .workRam ∨ o = .hram ∨ o = .ie ∨ (o = .videoRam ∧ s.vramBlocked = false) ∨ (o = .oam ∧ s.oamBlocked = false)) →
      (s.routerWrite a v).routerRead a = v ∧
        (fold b.toNat ≠ fold a.toNat → owner (fold b.toNat) ≠ .io →
          (s.routerWrite a v).routerRead b = s.routerRead b)

/-- The I/O page. It is reached by its addresses; unused bits read 1, read-only bits ignore writes, an unmapped address reads 0xFF and ignores
writes. A byte written to a plain register reads back, and no other plain register changes; LCDC reads back whatever else the write does; SC
reads back its bits 7, 1 and 0 unless the write is a high-speed start, which is refused; DIV reads 0 after any write; by default a sound
register reads back and the others stay. -/
def Obligations.IoMasks : Prop :=
  ∀ (v : Byte) (s : State),
    let plain : List Nat :=
      [0xFF01, 0xFF05, 0xFF06, 0xFF42, 0xFF43, 0xFF45, 0xFF46, 0xFF47, 0xFF48, 0xFF49, 0xFF4A, 0xFF4B]
    (∀ a : Word, 0xFF00 ≤ a.toNat → a.toNat < 0xFF80 → s.routerRead a = s.readIo a.toNat ∧ s.routerWrite a v = s.writeIo a.toNat v) ∧
      (∀ n, ioReg n = .unmapped → s.readIo n = 0xFF ∧ s.writeIo n v = s) ∧
      (∀ n ∈ plain, (s.writeIo n v).readIo n = v ∧ ∀ m ∈ plain, m ≠ n → (s.writeIo n v).readIo m = s.readIo m) ∧
      (s.writeIo 0xFF40 v).readIo 0xFF40 = v ∧ (∀ m ∈ plain, (s.writeIo 0xFF40 v).readIo m = s.readIo m) ∧
      ((v.getLsbD 7 = false ∨ v.getLsbD 1 = false) → (s.writeIo 0xFF02 v).readIo 0xFF02 = 0x7C ||| (v &&& 0x83)) ∧
      (s.writeIo 0xFF04 v).readIo 0xFF04 = 0x00 ∧
      (s.params.soundModel = .standard → Memory.wf Config.soundBlank s.sound → ∀ n, ioReg n = .sound →
        (s.writeIo n v).readIo n = v ∧ ∀ m, ioReg m = .sound → m ≠ n → (s.writeIo n v).readIo m = s.readIo m) ∧
      (s.writeIo 0xFF00 v).readIo 0xFF00 = (0xC0 ||| (v &&& 0x30) ||| (s.writeIo 0xFF00 v).joypad.nibble.setWidth 8) ∧
      (s.writeIo 0xFF0F v).readIo 0xFF0F = 0xE0 ||| (v &&& 0x1F) ∧ (s.writeIo 0xFF07 v).readIo 0xFF07 = 0xF8 ||| (v &&& 0x07) ∧
      (s.writeIo 0xFF44 v) = s ∧ (s.writeIo 0xFF4D v).readIo 0xFF4D = 0x7E ||| (v &&& 0x01) ∧
      (s.writeIo 0xFF70 v).readIo 0xFF70 = 0xF8 ||| (v &&& 0x07) ∧ s.readIo 0xFF56 = 0xFF ∧
      (s.writeIo 0xFF41 v).readIo 0xFF41 = 0x80 ||| (v &&& 0x78) ||| (s.readIo 0xFF41 &&& 0x07)

/-! ### DMA, timer, picture pipeline, collaborators -/

/-- A DMA, from any source page: while the core makes no access, n machine cycles after the write n bytes are copied and the others are as they
were, and in the cycle after the 160th the transfer is over; OAM is blocked as long as it is active. A byte comes from the cartridge, from
video or work RAM without regard to blocking, the mirror folded, and from 0xFE00 up it is a free value. -/
def Obligations.DmaCopies : Prop :=
  ∀ (v : Byte) (s : State), Memory.wf Config.ramBlank s.mem →
    let t := s.routerWrite 0xFF46 v
    let source (i : Nat) : Byte :=
      if v.toNat < 0x80 ∨ (0xA0 ≤ v.toNat ∧ v.toNat < 0xC0) then s.cartRead (BitVec.ofNat 16 (256 * v.toNat + i))
      else if v.toNat < 0xFE then s.ram (s.ramKey (fold (256 * v.toNat + i)))
      else Config.dmaHighByte (s.freeCount + i)
    (∀ n ≤ 160, (State.cycles n t).dma.active = true ∧ (State.cycles n t).dma.index = n ∧ (State.cycles n t).oamBlocked = true ∧
      ∀ i < 160, (State.cycles n t).ram (0xFE00 + i) = if i < n then source i else s.ram (0xFE00 + i)) ∧
      (State.cycles 161 t).dma.active = false

/-- The timer at its default model: a dot counts `sys` up, a write to DIV zeroes it, a write to TAC stores its bits 2:0; in each, TIMA increments exactly when
`TAC[2] and gatingBit` goes from 1 to 0, and at 0xFF it takes TMA and requests line 2; DIV reads `sys[15:8]`, and at reset 0xAB. -/
def Obligations.TimerRule : Prop :=
  State.reset.timer.sys = 0xAB00 ∧ ∀ s : State,
    s.timer.gated = (s.timer.tac.getLsbD 2 && s.timer.sys.getLsbD
      (match s.timer.tac.toNat % 4 with | 0 => 9 | 1 => 3 | 2 => 5 | _ => 7)) ∧
      (s.readIo 0xFF04).toNat = s.timer.sys.toNat / 256 ∧
      (s.params.timerModel = .standard → s.TimerInv →
        let effect (t : State) : Prop :=
          let falls := s.timer.gated && !t.timer.gated
          t.TimerInv ∧ t.timer.tma = s.timer.tma ∧
            t.timer.tima = (if falls then (if s.timer.tima = 0xFF then s.timer.tma else s.timer.tima + 1) else s.timer.tima) ∧
            t.irq.flags = (if falls && s.timer.tima == 0xFF then s.irq.flags ||| 4 else s.irq.flags)
        (effect s.timerDot ∧ s.timerDot.timer.sys = s.timer.sys + 1 ∧ s.timerDot.timer.tac = s.timer.tac) ∧
          ∀ v : Byte,
            (effect (s.writeIo 0xFF04 v) ∧ (s.writeIo 0xFF04 v).timer.sys = 0 ∧ (s.writeIo 0xFF04 v).timer.tac = s.timer.tac) ∧
              effect (s.writeIo 0xFF07 v) ∧ (s.writeIo 0xFF07 v).timer.sys = s.timer.sys ∧
              (s.writeIo 0xFF07 v).timer.tac.toNat = v.toNat % 8)

/-- One dot of the pipeline with the display enabled: 456 dots a line, 154 lines, IF bit 0 set exactly when the line becomes 144; where the line
becomes 0 the mode is OAM_SEARCH. -/
def Obligations.LineAdvance : Prop :=
  ∀ s : State, s.ppu.lcdOn = true → s.ppu.ly < 154 → s.ppu.lineDot < 456 →
    let t := s.ppuDot
    t.ppu.lineDot = (s.ppu.lineDot + 1) % 456 ∧
      t.ppu.ly = (if s.ppu.lineDot = 455 then (s.ppu.ly + 1) % 154 else s.ppu.ly) ∧
      t.irq.flags.getLsbD 0 = (s.irq.flags.getLsbD 0 || (s.ppu.lineDot == 455 && s.ppu.ly == 143)) ∧
      (s.ppu.lineDot = 455 → s.ppu.ly = 153 → t.ppu.mode = .oamSearch)

/-- The scanline invariant: of the 456 dots of a visible line, 80 are OAM_SEARCH, T are LCD_TRANSFER and 376 - T are H_BLANK. -/
def Obligations.ScanlineSum : Prop :=
  ∀ p : Ppu, p.lcdOn = true → p.ly < 144 → p.transfer ≤ 376 →
    let count (m : Mode) : Nat := ((List.range 456).filter fun d => ({ p with lineDot := d } : Ppu).mode == m).length
    count .oamSearch = 80 ∧ count .lcdTransfer = p.transfer ∧ count .hBlank = 376 - p.transfer ∧ count .vBlank = 0

/-- The OAM search: entry i is examined at `lineDot = 2 i`, entry 0 with the list empty again, and an entry is appended, in table order, exactly
when the list holds fewer than 10, its 8 lines cover the current line and its X is not 0; that the appended record keeps the four bytes as
examined is log entry 10 (DEDUCED). The transfer begins exactly at `lineDot = 80` of a visible line: T is between 172 and 376, and by
default 172 + SCX mod 8 + 6 per entry, at most 239. -/
def Obligations.OamSearch : Prop :=
  ∀ s : State,
    (∀ i, (s.examine i).ppu.candidates =
        (if s.ppu.candidates.length < 10 ∧ (s.oamByte i 0).toNat ≤ s.ppu.ly + 16 ∧ s.ppu.ly + 16 < (s.oamByte i 0).toNat + 8 ∧
            0 < (s.oamByte i 1).toNat
          then s.ppu.candidates ++ [{ index := i, y := s.oamByte i 0, x := s.oamByte i 1, tile := s.oamByte i 2, attrs := s.oamByte i 3 }]
          else s.ppu.candidates)) ∧
      (s.ppu.ly < 144 →
        (∀ i, 0 < i → i < 40 → s.ppu.lineDot = 2 * i → s.lineEvents = s.examine i) ∧
          (s.ppu.lineDot < 80 → s.ppu.lineDot % 2 = 1 → s.lineEvents = s) ∧
          (s.ppu.lineDot = 0 → s.lineEvents.ppu.candidates =
            (({ s with ppu := { s.ppu with candidates := [] } } : State).examine 0).ppu.candidates) ∧
          (s.ppu.lineDot = 80 →
            s.lineEvents = s.startTransfer ∧
              (s.ppu.candidates.length ≤ 10 →
                172 ≤ s.lineEvents.ppu.transfer ∧ s.lineEvents.ppu.transfer ≤ 376 ∧
                  (s.params.transferDots = .standard →
                    s.lineEvents.ppu.transfer = 172 + s.ppu.scx.toNat % 8 + 6 * s.ppu.candidates.length ∧
                      s.lineEvents.ppu.transfer ≤ 239))) ∧
          (s.ppu.lineDot ≠ 80 → s.lineEvents.ppu.transfer = s.ppu.transfer))

/-- A write that clears LCDC bit 7 sets line 0 and dot 0; while it is clear a dot moves nothing of the pipeline and sets no IF bit, LY keeps
reading what it was, STAT bits 1:0 read 0, the pipeline blocks no memory and a frame call returns shade 0 everywhere; a write that sets
it again puts the pipeline at line 0, dot 0 in OAM_SEARCH, and the next dot is dot 1. -/
def Obligations.DisplayOff : Prop :=
  ∀ s : State,
    (∀ v : Byte, v.getLsbD 7 = false → (s.writeIo 0xFF40 v).ppu = { s.ppu with lcdc := v, ly := 0, lineDot := 0 } ∧
      (s.writeIo 0xFF40 v).ppu.lcdOn = false ∧ (s.writeIo 0xFF40 v).readIo 0xFF44 = 0) ∧
      (s.ppu.lcdOn = false →
        s.ppuDot = { s with ppu := { s.ppu with statLine := false } } ∧ (s.readIo 0xFF41).toNat % 4 = 0 ∧ s.vramBlocked = false ∧
          s.oamBlocked = s.dma.active ∧ s.frameCopy = [] ∧
          ∀ v : Byte, v.getLsbD 7 = true →
            let t := s.writeIo 0xFF40 v
            t.ppu.ly = 0 ∧ t.ppu.lineDot = 0 ∧ t.ppu.mode = .oamSearch ∧ t.ppuDot.ppu.lineDot = 1 ∧ t.ppuDot.ppu.ly = 0)

/-- The STAT line at its default: after the line advance of every dot, the OR of the selected conditions with the display on; its edge from 0 to 1, and only
that, requests line 1. -/
def Obligations.StatInterrupt : Prop :=
  ∀ s : State,
    s.ppuDot = (if s.ppu.lcdOn then s.lineAdvance.lineEvents else s).statDot ∧
      (s.params.statIrq = .standard →
        let line := s.ppu.lcdOn &&
          ((s.ppu.statSel.getLsbD 3 && s.ppu.lyByte == s.ppu.lyc) || (s.ppu.statSel.getLsbD 2 && s.ppu.mode == .oamSearch) ||
            (s.ppu.statSel.getLsbD 1 && s.ppu.mode == .vBlank) || (s.ppu.statSel.getLsbD 0 && s.ppu.mode == .hBlank))
        s.statDot.ppu = { s.ppu with statLine := line } ∧
          s.statDot.irq.flags = (if line = true ∧ s.ppu.statLine = false then s.irq.flags ||| 2 else s.irq.flags))

/-- Pixel x of a visible line is stored at (x, ly) in the dot in which `lineDot` is 80 + T - 160 + x, and nothing else of the frame buffer
changes then or in any other dot past 80; no dot of lines 144 to 153 does anything of the kind. The state that shades a pixel is that of its
dot, with `bgSampleDots = perTile` after that dot's sampling. The shade is a sprite pixel's through its palette where it is drawn over the
background (its priority bit, or a background index of 0), else the background index's through BGP as it stands, 0 with the background off.
By default the sprite pixel is that of the winning candidate: its index, OBP1 by attribute bit 4, behind the background by bit 7; none where
every candidate is transparent or LCDC bit 1 is 0; the order of the candidates is what `StepKeepsDevices` says every step keeps. That LCDC
bit 0 is the sampled one and LCDC bit 1 that of the emission dot is log entry 11 (DEDUCED, DESIGN CHOICE). That `sample x` takes the group of
x with the discard of the line's first sample, under perTile too, is log entry 25 (DESIGN CHOICE). The queue of the model's fetcher view
(log entry 20) holds at most 16 entries. -/
def Obligations.PixelEmission : Prop :=
  ∀ s : State, Memory.wf Config.frameBlank s.ppu.frame → 172 ≤ s.ppu.transfer →
    let shade (t : State) (k : Nat) : Byte := Memory.get Config.frameBlank t.ppu.frame k
    let now (x : Nat) : Prop := x < 160 ∧ s.ppu.lineDot = 80 + s.ppu.transfer - 160 + x
    let sample (x : Nat) : BgSample := s.sampleFor (x + s.ppu.discard)
    let through (palette : Byte) (n : Nat) : Nat := palette.toNat / 4 ^ n % 4
    let background (x : Nat) : Nat := if (sample x).lcdc.getLsbD 0 then through s.ppu.bgp (s.bgIndex x) else 0
    (144 ≤ s.ppu.ly → s.lineEvents = s) ∧
      (s.ppu.ly < 144 → 80 < s.ppu.lineDot →
        (∀ x, now x → shade s.lineEvents (160 * s.ppu.ly + x) = s.sampleGroup.pixelShade x) ∧
          (∀ k, (∀ x, now x → k ≠ 160 * s.ppu.ly + x) → shade s.lineEvents k = shade s k)) ∧
      (s.ppu.lineDot ≤ 80 → s.lineEvents.ppu.frame = s.ppu.frame) ∧
      (s.ppu.ly < 144 → s.ppu.lineDot = 80 →
        s.lineEvents.ppu.samples = [{ lcdc := s.ppu.lcdc, scx := s.ppu.scx, scy := s.ppu.scy }]) ∧
      (s.params.bgSampling = .perLine →
        s.sampleGroup = s ∧ ∀ r rest p, s.ppu.samples = r :: rest → s.sampleFor p = r) ∧
      (∀ x, BackgroundRule s (sample x) x (s.bgIndex x)) ∧
      (∀ x, match s.spritePixel x with
        | none => (s.pixelShade x).toNat = background x
        | some p => 1 ≤ p.index ∧ p.index ≤ 3 ∧ (s.pixelShade x).toNat =
            if p.front = true ∨ s.bgIndex x = 0 then through (if p.obp1 then s.ppu.obp1 else s.ppu.obp0) p.index else background x) ∧
      (∀ (e : Sprite) (x : Nat), e.y.toNat ≤ s.ppu.ly + 16 → s.ppu.ly + 16 < e.y.toNat + 8 → SpriteRule s e x (s.spriteIndex e x)) ∧
      (s.params.spritePixel = .standard → ∀ x,
        (s.ppu.lcdc.getLsbD 1 = false → s.spritePixel x = none) ∧
          ((∀ e ∈ s.ppu.candidates, s.spriteIndex e x = 0) → s.spritePixel x = none) ∧
          (s.ppu.lcdc.getLsbD 1 = true → s.ppu.candidates.Pairwise (fun d e => d.index < e.index) → ∀ w, SpriteWins s w x →
            s.spritePixel x = some { index := s.spriteIndex w x, obp1 := w.attrs.getLsbD 4, front := !w.attrs.getLsbD 7 })) ∧
      s.pixelQueue.length ≤ 16

/-- Serial at its default model (`dot` is the number of the dot after the core's): a start with the internal clock hands SB to the host at once and
completes 4096 dots later with SB = 0xFF, SC bit 7 cleared and line 3 requested, and in no other dot does anything of it change; with the
external clock nothing is sent and no completion is due. Under every model a high-speed start is refused and a write with bit 7 = 0 starts
nothing. That a start or a write with bit 7 = 0 leaves an earlier completion due is log entry 13 (DESIGN CHOICE). -/
def Obligations.SerialTransfer : Prop :=
  ∀ s : State,
    (s.params.serialEvent = .standard →
      (∀ v : Byte, v.getLsbD 7 = true → v.getLsbD 1 = false → v.getLsbD 0 = true →
        (s.writeIo 0xFF02 v).serial.out = s.serial.out ++ [s.serial.sb] ∧
          (s.writeIo 0xFF02 v).serial.due = s.serial.due ++ [s.dot + 4095]) ∧
        (∀ v : Byte, v.getLsbD 7 = true → v.getLsbD 1 = false → v.getLsbD 0 = false →
          (s.writeIo 0xFF02 v).serial.out = s.serial.out ∧ (s.writeIo 0xFF02 v).serial.due = s.serial.due) ∧
        (s.dot ∈ s.serial.due →
          s.serialDot.serial.sb = 0xFF ∧ s.serialDot.serial.start = false ∧ s.serialDot.irq.flags = s.irq.flags ||| 8) ∧
        (s.dot ∉ s.serial.due → s.serialDot = s)) ∧
      (∀ v : Byte, v.getLsbD 7 = true → v.getLsbD 1 = true → s.Live →
        conclude (s.writeIo 0xFF02 v) = .refused (.unmodelled .highSpeedSerial)) ∧
      (∀ v : Byte, v.getLsbD 7 = false → (s.writeIo 0xFF02 v).serial =
        { s.serial with start := false, fast := v.getLsbD 1, clock := v.getLsbD 0 })

/-- A button event: by default the request of line 4 exactly when a bit of P1's low nibble goes from 1 to 0; a press ends STOP; with every button released
before, a pressed button whose group is selected reads 0 in its bit and every other bit reads 1. -/
def Obligations.ButtonEvents : Prop :=
  ∀ (e : ButtonEvent) (s : State),
    let t := s.buttonEvent e
    (s.params.joypadEvent = .standard →
      t.irq.flags = if (∃ i < 4, s.joypad.nibble.getLsbD i = true ∧ t.joypad.nibble.getLsbD i = false)
        then s.irq.flags ||| 16 else s.irq.flags) ∧
      (e.pressed = true → t.cpu.stopped = false) ∧ (e.pressed = false → t.cpu.stopped = s.cpu.stopped) ∧
      (e.pressed = true → s.joypad.dirs = 0xF → s.joypad.acts = 0xF →
        let place := match e.button with
          | .right => (0, 0) | .left => (0, 1) | .up => (0, 2) | .down => (0, 3)
          | .a => (1, 0) | .b => (1, 1) | .select => (1, 2) | .start => (1, 3)
        ∀ i < 4, t.joypad.nibble.getLsbD i = !(i == place.2 && !s.joypad.sel.getLsbD place.1))

/-- The uses of the unimplemented features each end the run with that refusal, and an ended run has no successor. -/
def Obligations.RefusalsEndTheRun : Prop :=
  ∀ s : State,
    (∀ f, s.fatal = none → s.refused = some f → step s = .refused (.unmodelled f)) ∧
      (∀ m, s.fatal = some m → step s = .fault (.fatal m)) ∧
      (s.Live →
        (s.key1 = true → finish (exec .stop s) = .refused (.unmodelled .doubleSpeed)) ∧
          (∀ v, conclude (s.writeIo 0xFF56 v) = .refused (.unmodelled .infrared)) ∧
          (∀ v : Byte, v.getLsbD 7 = true → v.getLsbD 1 = true → conclude (s.writeIo 0xFF02 v) = .refused (.unmodelled .highSpeedSerial)) ∧
          (s.ppu.ly < 144 → s.ppu.lineDot = 80 → s.ppu.lcdc.getLsbD 5 = true →
            conclude s.lineEvents = .refused (.unmodelled .window)) ∧
          (s.ppu.ly < 144 → s.ppu.lineDot = 0 → s.ppu.lcdc.getLsbD 2 = true → s.ppu.lcdc.getLsbD 1 = true →
            conclude s.lineEvents = .refused (.unmodelled .tallSprites)))

/-! ### Reset and invariants -/

/-- The values the spec states for reset. -/
def Obligations.ResetValues : Prop :=
  let s := State.reset
  s.cpu = { a := 0x01, f := 0xB0, b := 0x00, c := 0x13, d := 0x00, e := 0xD8, h := 0x01, l := 0x4D, sp := 0xFFFE, pc := 0x0100
            ime := false, eiDelay := 0, halted := false, haltBug := false, stopped := false, frozen := none } ∧
    s.sched.remaining = 0 ∧ s.sched.mcycle = 0 ∧ s.sched.queue = [] ∧ s.dot = 0 ∧ s.mem = [] ∧ s.dma.active = false ∧
    s.readIo 0xFF00 = 0xCF ∧ s.readIo 0xFF01 = 0x00 ∧ s.readIo 0xFF02 = 0x7E ∧ s.readIo 0xFF04 = 0xAB ∧ s.readIo 0xFF05 = 0x00 ∧
    s.readIo 0xFF06 = 0x00 ∧ s.readIo 0xFF07 = 0xF8 ∧ s.readIo 0xFF0F = 0xE1 ∧ s.readIo 0xFF10 = 0xFF ∧ s.readIo 0xFF40 = 0x91 ∧
    s.readIo 0xFF41 = 0x86 ∧ s.readIo 0xFF42 = 0x00 ∧ s.readIo 0xFF43 = 0x00 ∧ s.readIo 0xFF44 = 0x00 ∧ s.readIo 0xFF45 = 0x00 ∧
    s.readIo 0xFF46 = 0xFF ∧ s.readIo 0xFF47 = 0xFC ∧ s.readIo 0xFF48 = 0xFF ∧ s.readIo 0xFF49 = 0xFF ∧ s.readIo 0xFF4A = 0x00 ∧
    s.readIo 0xFF4B = 0x00 ∧ s.readIo 0xFF4D = 0x7E ∧ s.readIo 0xFF56 = 0xFF ∧ s.readIo 0xFF70 = 0xF8 ∧ s.routerRead 0xFFFF = 0x00

/-- The reset procedure with any values of the parameters, the memories canonical and the values within their ranges: the core has the registers of
`initialRegs` with F's bits 3:0 at 0 and PC at 0x0100, RAM is `initialRam`, no DMA is active, and the invariants below hold. With the defaults
and the test cartridge it gives `State.reset`. -/
def Obligations.ResetInvariants : Prop :=
  State.powerOn Initial.default Params.default (Cart.testCart []) = State.reset ∧
    ∀ (init : Initial) (params : Params) (cart : Cart), Memory.wf Config.ramBlank init.ram → Memory.wf Config.frameBlank init.ppu.frame →
      Memory.wf Config.imageBlank cart.image → init.ppu.candidates.length ≤ 10 → 172 ≤ init.ppu.transfer → init.ppu.transfer ≤ 376 →
      init.ppu.gate = false → init.ppu.candidates.Pairwise (fun d e => d.index < e.index) →
      (init.ppu.ly.val < 144 → ∀ e ∈ init.ppu.candidates, 2 * e.index ≤ init.ppu.lineDot.val) →
      (init.ppu.lineDot = 0 → init.ppu.candidates = []) →
      let s := State.powerOn init params cart
      s.Live ∧ s.AtBoundary ∧ s.memoriesWf ∧ s.FlagsClean ∧ s.ControlInv ∧ s.PictureInv ∧ s.DmaInv ∧ s.TimerInv ∧
        s.cpu.a = init.regs.a ∧ s.cpu.f.toNat = 16 * init.regs.flags.toNat ∧ s.cpu.sp = init.regs.sp ∧ s.cpu.pc = 0x0100 ∧
        s.mem = init.ram ∧ s.dma.active = false ∧ s.params = params ∧ s.cart = cart

/-- Every step keeps the canonical form of every memory. -/
def Obligations.StepKeepsMemory : Prop :=
  ∀ s t : State, s.memoriesWf → step s = .next t → t.memoriesWf

/-- After every step nothing is outstanding: no access in the queue, no machine cycle left over, whatever the step started; and the step has
taken exactly the machine cycles of what it started, the cycle table's count for an instruction, five for a dispatch, one where the core
idles. -/
def Obligations.StepKeepsBoundary : Prop :=
  ∀ s t : State, s.AtBoundary → step s = .next t →
    t.AtBoundary ∧ t.sched.mcycle = s.sched.mcycle + startCycles s.beginCycle.boundary

/-- After every step F's bits 3:0 are 0 and the control bits are as the spec allows. -/
def Obligations.StepKeepsCore : Prop :=
  ∀ s t : State, s.FlagsClean → s.ControlInv → step s = .next t → t.FlagsClean ∧ t.ControlInv

/-- Every step keeps the pipeline's counters in their ranges and its candidates in table order, the transfer's index in its range and the
timer's gate bit as the gated bit stands. -/
def Obligations.StepKeepsDevices : Prop :=
  ∀ s t : State, s.PictureInv → s.DmaInv → s.TimerInv → step s = .next t → t.PictureInv ∧ t.DmaInv ∧ t.TimerInv
end

