-- ==== Sys2Proof/Laws/Flags.lean ====
section
/-! SUPPORT. What each bit of a packed F is, and that the two halves of a word give it back. -/

namespace Sys2Proof.Machine

@[simp] theorem packFlags_z (z n h c : Bool) : (packFlags z n h c).getLsbD 7 = z := by
  cases z <;> cases n <;> cases h <;> cases c <;> rfl

@[simp] theorem packFlags_n (z n h c : Bool) : (packFlags z n h c).getLsbD 6 = n := by
  cases z <;> cases n <;> cases h <;> cases c <;> rfl

@[simp] theorem packFlags_h (z n h c : Bool) : (packFlags z n h c).getLsbD 5 = h := by
  cases z <;> cases n <;> cases h <;> cases c <;> rfl

@[simp] theorem packFlags_c (z n h c : Bool) : (packFlags z n h c).getLsbD 4 = c := by
  cases z <;> cases n <;> cases h <;> cases c <;> rfl

@[simp] theorem packFlags_low (z n h c : Bool) : (packFlags z n h c).toNat % 16 = 0 := by
  cases z <;> cases n <;> cases h <;> cases c <;> rfl

@[simp] theorem pair_toNat (h l : Byte) : (pair h l).toNat = h.toNat * 256 + l.toNat := by
  simp only [pair, BitVec.toNat_ofNat]
  omega

@[simp] theorem hi_toNat (w : Word) : (hi w).toNat = w.toNat / 256 := by
  simp only [hi, BitVec.toNat_ofNat]
  omega

@[simp] theorem lo_toNat (w : Word) : (lo w).toNat = w.toNat % 256 := by
  simp only [lo, BitVec.toNat_ofNat]

@[simp] theorem pair_hi_lo (w : Word) : pair (hi w) (lo w) = w := by
  apply BitVec.eq_of_toNat_eq
  simp only [pair_toNat, hi_toNat, lo_toNat]
  omega

@[simp] theorem hi_pair (h l : Byte) : hi (pair h l) = h := by
  apply BitVec.eq_of_toNat_eq
  simp only [pair_toNat, hi_toNat]
  omega

@[simp] theorem lo_pair (h l : Byte) : lo (pair h l) = l := by
  apply BitVec.eq_of_toNat_eq
  simp only [pair_toNat, lo_toNat]
  omega

theorem sext_toNat (e : Byte) : (sext e).toNat = if e.toNat < 128 then e.toNat else 0xFF00 + e.toNat := by
  simp only [sext, BitVec.toNat_ofNat]
  split <;> omega

end Sys2Proof.Machine
end

