-- ==== Sys2Proof/Laws/Memory.lean ====
section
/-! SUPPORT. The laws of the canonical memory: read after write, other bytes unchanged, and the canonical form is kept. -/

namespace Sys2Proof.Machine

variable {blank : Byte}

/-- Reading the byte just written gives it. -/
@[simp] theorem Memory.get_set_self (m : Memory) (a : Nat) (v : Byte) (h : Memory.wf blank m) :
    Memory.get blank (Memory.set blank m a v) a = v := by
  induction m with
  | nil => by_cases hv : v = blank <;> simp [Memory.set, Memory.get, hv]
  | cons x m ih =>
    obtain ⟨k, w⟩ := x
    have hm : Memory.wf blank m := ⟨(List.pairwise_cons.1 h.1).2, fun y hy => h.2 y (List.mem_cons_of_mem _ hy)⟩
    have hk : ∀ y ∈ m, k < y.1 := (List.pairwise_cons.1 h.1).1
    have hget : ∀ (l : Memory), (∀ y ∈ l, a < y.1) → Memory.get blank l a = blank := by
      intro l
      induction l with
      | nil => intro _; rfl
      | cons y l ihl =>
        intro hl
        have h1 := hl y (by simp)
        simp only [Memory.get]
        rw [if_neg (by omega)]
        exact ihl fun z hz => hl z (List.mem_cons_of_mem _ hz)
    unfold Memory.set
    split
    · split
      · rename_i ha hv
        rw [hv]
        exact hget _ (by
          intro y hy
          rcases List.mem_cons.1 hy with rfl | hy
          · exact ha
          · exact lt_trans ha (hk y hy))
      · simp [Memory.get]
    · split
      · rename_i ha
        subst ha
        split
        · rename_i hv
          rw [hv]
          exact hget _ hk
        · simp [Memory.get]
      · rename_i ha
        simp only [Memory.get]
        rw [if_neg (fun e => ha e.symm)]
        exact ih hm

/-- Writing one byte leaves every other byte alone. -/
@[simp] theorem Memory.get_set_other (m : Memory) (a b : Nat) (v : Byte) (h : Memory.wf blank m) (hb : b ≠ a) :
    Memory.get blank (Memory.set blank m a v) b = Memory.get blank m b := by
  induction m with
  | nil => by_cases hv : v = blank <;> simp [Memory.set, Memory.get, hv, hb.symm]
  | cons x m ih =>
    obtain ⟨k, w⟩ := x
    have hm : Memory.wf blank m := ⟨(List.pairwise_cons.1 h.1).2, fun y hy => h.2 y (List.mem_cons_of_mem _ hy)⟩
    unfold Memory.set
    split
    · split
      · rfl
      · simp [Memory.get, hb.symm]
    · split
      · rename_i ha
        subst ha
        split <;> simp [Memory.get, hb.symm]
      · simp only [Memory.get]
        split
        · rfl
        · exact ih hm

/-- A key of the written memory is the written address or was there. -/
theorem Memory.mem_set (m : Memory) (a : Nat) (v : Byte) (x : Host.Cell) (hx : x ∈ Memory.set blank m a v) :
    x = (a, v) ∨ x ∈ m := by
  induction m with
  | nil =>
    unfold Memory.set at hx
    split at hx
    · cases hx
    · left; simpa using hx
  | cons y m ih =>
    obtain ⟨k, w⟩ := y
    unfold Memory.set at hx
    split at hx
    · split at hx
      · right; exact hx
      · rcases List.mem_cons.1 hx with rfl | hx
        · left; rfl
        · right; exact hx
    · split at hx
      · split at hx
        · right; exact List.mem_cons_of_mem _ hx
        · rcases List.mem_cons.1 hx with rfl | hx
          · left; rfl
          · right; exact List.mem_cons_of_mem _ hx
      · rcases List.mem_cons.1 hx with rfl | hx
        · right; simp
        · rcases ih hx with h | h
          · left; exact h
          · right; exact List.mem_cons_of_mem _ h

/-- Writing keeps the canonical form. -/
theorem Memory.wf_set (m : Memory) (a : Nat) (v : Byte) (h : Memory.wf blank m) : Memory.wf blank (Memory.set blank m a v) := by
  induction m with
  | nil => by_cases hv : v = blank <;> simp [Memory.set, Memory.wf, hv]
  | cons x m ih =>
    obtain ⟨k, w⟩ := x
    have hm : Memory.wf blank m := ⟨(List.pairwise_cons.1 h.1).2, fun y hy => h.2 y (List.mem_cons_of_mem _ hy)⟩
    have hk : ∀ y ∈ m, k < y.1 := (List.pairwise_cons.1 h.1).1
    have hw : w ≠ blank := h.2 (k, w) (by simp)
    unfold Memory.set
    split
    · split
      · exact h
      · rename_i ha hv
        refine ⟨List.pairwise_cons.2 ⟨?_, h.1⟩, ?_⟩
        · intro y hy
          rcases List.mem_cons.1 hy with rfl | hy
          · exact ha
          · exact lt_trans ha (hk y hy)
        · intro y hy
          rcases List.mem_cons.1 hy with rfl | hy
          · exact hv
          · exact h.2 y hy
    · split
      · rename_i ha
        subst ha
        split
        · exact hm
        · rename_i hv
          refine ⟨List.pairwise_cons.2 ⟨hk, hm.1⟩, ?_⟩
          intro y hy
          rcases List.mem_cons.1 hy with rfl | hy
          · exact hv
          · exact hm.2 y hy
      · rename_i h1 h2
        refine ⟨List.pairwise_cons.2 ⟨?_, (ih hm).1⟩, ?_⟩
        · intro y hy
          rcases Memory.mem_set m a v y hy with rfl | hy
          · show k < a; omega
          · exact hk y hy
        · intro y hy
          rcases List.mem_cons.1 hy with rfl | hy
          · exact hw
          · exact (ih hm).2 y hy

/-- Two canonical memories that read alike at every address are equal: equal memories are equal data. -/
theorem Memory.ext_get (m n : Memory) (hm : Memory.wf blank m) (hn : Memory.wf blank n)
    (h : ∀ a, Memory.get blank m a = Memory.get blank n a) : m = n := by
  have low : ∀ (l : Memory) (a : Nat), (∀ y ∈ l, a < y.1) → Memory.get blank l a = blank := by
    intro l a
    induction l with
    | nil => intro _; rfl
    | cons y l ihl =>
      intro hl
      have h1 := hl y (by simp)
      simp only [Memory.get]
      rw [if_neg (by omega)]
      exact ihl fun z hz => hl z (List.mem_cons_of_mem _ hz)
  induction m generalizing n with
  | nil =>
    cases n with
    | nil => rfl
    | cons y n =>
      have := h y.1
      simp only [Memory.get, if_true] at this
      exact absurd this.symm (hn.2 y (by simp))
  | cons x m ih =>
    cases n with
    | nil =>
      have := h x.1
      simp only [Memory.get, if_true] at this
      exact absurd this (hm.2 x (by simp))
    | cons y n =>
      obtain ⟨k, v⟩ := x
      obtain ⟨k', v'⟩ := y
      have hkm : ∀ z ∈ m, k < z.1 := (List.pairwise_cons.1 hm.1).1
      have hkn : ∀ z ∈ n, k' < z.1 := (List.pairwise_cons.1 hn.1).1
      have hv : v ≠ blank := hm.2 (k, v) (by simp)
      have hv' : v' ≠ blank := hn.2 (k', v') (by simp)
      have e : k = k' := by
        rcases Nat.lt_trichotomy k k' with hlt | he | hgt
        · have := h k
          rw [low ((k', v') :: n) k (by
            intro z hz
            rcases List.mem_cons.1 hz with rfl | hz
            · exact hlt
            · exact lt_trans hlt (hkn z hz))] at this
          simp only [Memory.get, if_true] at this
          exact absurd this hv
        · exact he
        · have := h k'
          rw [low ((k, v) :: m) k' (by
            intro z hz
            rcases List.mem_cons.1 hz with rfl | hz
            · exact hgt
            · exact lt_trans hgt (hkm z hz))] at this
          simp only [Memory.get, if_true] at this
          exact absurd this.symm hv'
      subst e
      have ev : v = v' := by simpa [Memory.get] using h k
      subst ev
      congr 1
      refine ih n ⟨(List.pairwise_cons.1 hm.1).2, fun z hz => hm.2 z (List.mem_cons_of_mem _ hz)⟩
        ⟨(List.pairwise_cons.1 hn.1).2, fun z hz => hn.2 z (List.mem_cons_of_mem _ hz)⟩ ?_
      intro a
      by_cases ha : k = a
      · subst ha
        rw [low m k hkm, low n k hkn]
      · simpa [Memory.get, ha] using h a

end Sys2Proof.Machine
end

