-- ==== Sys2Proof/Laws/State.lean ====
section
/-! SUPPORT. One lemma per field of State per update: what each update leaves in each field. -/

namespace Sys2Proof.Machine

variable (s : State)

@[simp] theorem mapCpu_cpu (g : Cpu → Cpu) : (s.mapCpu g).cpu = g s.cpu := rfl
@[simp] theorem mapCpu_sched (g : Cpu → Cpu) : (s.mapCpu g).sched = s.sched := rfl
@[simp] theorem mapCpu_irq (g : Cpu → Cpu) : (s.mapCpu g).irq = s.irq := rfl
@[simp] theorem mapCpu_timer (g : Cpu → Cpu) : (s.mapCpu g).timer = s.timer := rfl
@[simp] theorem mapCpu_serial (g : Cpu → Cpu) : (s.mapCpu g).serial = s.serial := rfl
@[simp] theorem mapCpu_joypad (g : Cpu → Cpu) : (s.mapCpu g).joypad = s.joypad := rfl
@[simp] theorem mapCpu_ppu (g : Cpu → Cpu) : (s.mapCpu g).ppu = s.ppu := rfl
@[simp] theorem mapCpu_dma (g : Cpu → Cpu) : (s.mapCpu g).dma = s.dma := rfl
@[simp] theorem mapCpu_key1 (g : Cpu → Cpu) : (s.mapCpu g).key1 = s.key1 := rfl
@[simp] theorem mapCpu_svbk (g : Cpu → Cpu) : (s.mapCpu g).svbk = s.svbk := rfl
@[simp] theorem mapCpu_mem (g : Cpu → Cpu) : (s.mapCpu g).mem = s.mem := rfl
@[simp] theorem mapCpu_sound (g : Cpu → Cpu) : (s.mapCpu g).sound = s.sound := rfl
@[simp] theorem mapCpu_cart (g : Cpu → Cpu) : (s.mapCpu g).cart = s.cart := rfl
@[simp] theorem mapCpu_inputs (g : Cpu → Cpu) : (s.mapCpu g).inputs = s.inputs := rfl
@[simp] theorem mapCpu_dot (g : Cpu → Cpu) : (s.mapCpu g).dot = s.dot := rfl
@[simp] theorem mapCpu_report (g : Cpu → Cpu) : (s.mapCpu g).report = s.report := rfl
@[simp] theorem mapCpu_freeCount (g : Cpu → Cpu) : (s.mapCpu g).freeCount = s.freeCount := rfl
@[simp] theorem mapCpu_refused (g : Cpu → Cpu) : (s.mapCpu g).refused = s.refused := rfl
@[simp] theorem mapCpu_fatal (g : Cpu → Cpu) : (s.mapCpu g).fatal = s.fatal := rfl
@[simp] theorem mapCpu_params (g : Cpu → Cpu) : (s.mapCpu g).params = s.params := rfl

@[simp] theorem setReg_cpu (r : Reg8) (v : Byte) : (s.setReg r v).cpu = s.cpu.setReg r v := rfl
@[simp] theorem setReg_sched (r : Reg8) (v : Byte) : (s.setReg r v).sched = s.sched := rfl
@[simp] theorem setReg_irq (r : Reg8) (v : Byte) : (s.setReg r v).irq = s.irq := rfl
@[simp] theorem setReg_timer (r : Reg8) (v : Byte) : (s.setReg r v).timer = s.timer := rfl
@[simp] theorem setReg_serial (r : Reg8) (v : Byte) : (s.setReg r v).serial = s.serial := rfl
@[simp] theorem setReg_joypad (r : Reg8) (v : Byte) : (s.setReg r v).joypad = s.joypad := rfl
@[simp] theorem setReg_ppu (r : Reg8) (v : Byte) : (s.setReg r v).ppu = s.ppu := rfl
@[simp] theorem setReg_dma (r : Reg8) (v : Byte) : (s.setReg r v).dma = s.dma := rfl
@[simp] theorem setReg_key1 (r : Reg8) (v : Byte) : (s.setReg r v).key1 = s.key1 := rfl
@[simp] theorem setReg_svbk (r : Reg8) (v : Byte) : (s.setReg r v).svbk = s.svbk := rfl
@[simp] theorem setReg_mem (r : Reg8) (v : Byte) : (s.setReg r v).mem = s.mem := rfl
@[simp] theorem setReg_sound (r : Reg8) (v : Byte) : (s.setReg r v).sound = s.sound := rfl
@[simp] theorem setReg_cart (r : Reg8) (v : Byte) : (s.setReg r v).cart = s.cart := rfl
@[simp] theorem setReg_inputs (r : Reg8) (v : Byte) : (s.setReg r v).inputs = s.inputs := rfl
@[simp] theorem setReg_dot (r : Reg8) (v : Byte) : (s.setReg r v).dot = s.dot := rfl
@[simp] theorem setReg_report (r : Reg8) (v : Byte) : (s.setReg r v).report = s.report := rfl
@[simp] theorem setReg_freeCount (r : Reg8) (v : Byte) : (s.setReg r v).freeCount = s.freeCount := rfl
@[simp] theorem setReg_refused (r : Reg8) (v : Byte) : (s.setReg r v).refused = s.refused := rfl
@[simp] theorem setReg_fatal (r : Reg8) (v : Byte) : (s.setReg r v).fatal = s.fatal := rfl
@[simp] theorem setReg_params (r : Reg8) (v : Byte) : (s.setReg r v).params = s.params := rfl

@[simp] theorem setPair_cpu (q : Pair) (w : Word) : (s.setPair q w).cpu = s.cpu.setPair q w := rfl
@[simp] theorem setPair_sched (q : Pair) (w : Word) : (s.setPair q w).sched = s.sched := rfl
@[simp] theorem setPair_irq (q : Pair) (w : Word) : (s.setPair q w).irq = s.irq := rfl
@[simp] theorem setPair_timer (q : Pair) (w : Word) : (s.setPair q w).timer = s.timer := rfl
@[simp] theorem setPair_serial (q : Pair) (w : Word) : (s.setPair q w).serial = s.serial := rfl
@[simp] theorem setPair_joypad (q : Pair) (w : Word) : (s.setPair q w).joypad = s.joypad := rfl
@[simp] theorem setPair_ppu (q : Pair) (w : Word) : (s.setPair q w).ppu = s.ppu := rfl
@[simp] theorem setPair_dma (q : Pair) (w : Word) : (s.setPair q w).dma = s.dma := rfl
@[simp] theorem setPair_key1 (q : Pair) (w : Word) : (s.setPair q w).key1 = s.key1 := rfl
@[simp] theorem setPair_svbk (q : Pair) (w : Word) : (s.setPair q w).svbk = s.svbk := rfl
@[simp] theorem setPair_mem (q : Pair) (w : Word) : (s.setPair q w).mem = s.mem := rfl
@[simp] theorem setPair_sound (q : Pair) (w : Word) : (s.setPair q w).sound = s.sound := rfl
@[simp] theorem setPair_cart (q : Pair) (w : Word) : (s.setPair q w).cart = s.cart := rfl
@[simp] theorem setPair_inputs (q : Pair) (w : Word) : (s.setPair q w).inputs = s.inputs := rfl
@[simp] theorem setPair_dot (q : Pair) (w : Word) : (s.setPair q w).dot = s.dot := rfl
@[simp] theorem setPair_report (q : Pair) (w : Word) : (s.setPair q w).report = s.report := rfl
@[simp] theorem setPair_freeCount (q : Pair) (w : Word) : (s.setPair q w).freeCount = s.freeCount := rfl
@[simp] theorem setPair_refused (q : Pair) (w : Word) : (s.setPair q w).refused = s.refused := rfl
@[simp] theorem setPair_fatal (q : Pair) (w : Word) : (s.setPair q w).fatal = s.fatal := rfl
@[simp] theorem setPair_params (q : Pair) (w : Word) : (s.setPair q w).params = s.params := rfl

@[simp] theorem setFlags_cpu (f : Byte) : (s.setFlags f).cpu = { s.cpu with f := f } := rfl
@[simp] theorem setFlags_sched (f : Byte) : (s.setFlags f).sched = s.sched := rfl
@[simp] theorem setFlags_irq (f : Byte) : (s.setFlags f).irq = s.irq := rfl
@[simp] theorem setFlags_timer (f : Byte) : (s.setFlags f).timer = s.timer := rfl
@[simp] theorem setFlags_serial (f : Byte) : (s.setFlags f).serial = s.serial := rfl
@[simp] theorem setFlags_joypad (f : Byte) : (s.setFlags f).joypad = s.joypad := rfl
@[simp] theorem setFlags_ppu (f : Byte) : (s.setFlags f).ppu = s.ppu := rfl
@[simp] theorem setFlags_dma (f : Byte) : (s.setFlags f).dma = s.dma := rfl
@[simp] theorem setFlags_key1 (f : Byte) : (s.setFlags f).key1 = s.key1 := rfl
@[simp] theorem setFlags_svbk (f : Byte) : (s.setFlags f).svbk = s.svbk := rfl
@[simp] theorem setFlags_mem (f : Byte) : (s.setFlags f).mem = s.mem := rfl
@[simp] theorem setFlags_sound (f : Byte) : (s.setFlags f).sound = s.sound := rfl
@[simp] theorem setFlags_cart (f : Byte) : (s.setFlags f).cart = s.cart := rfl
@[simp] theorem setFlags_inputs (f : Byte) : (s.setFlags f).inputs = s.inputs := rfl
@[simp] theorem setFlags_dot (f : Byte) : (s.setFlags f).dot = s.dot := rfl
@[simp] theorem setFlags_report (f : Byte) : (s.setFlags f).report = s.report := rfl
@[simp] theorem setFlags_freeCount (f : Byte) : (s.setFlags f).freeCount = s.freeCount := rfl
@[simp] theorem setFlags_refused (f : Byte) : (s.setFlags f).refused = s.refused := rfl
@[simp] theorem setFlags_fatal (f : Byte) : (s.setFlags f).fatal = s.fatal := rfl
@[simp] theorem setFlags_params (f : Byte) : (s.setFlags f).params = s.params := rfl

@[simp] theorem setAcc_cpu (x : ByteResult) : (s.setAcc x).cpu = { s.cpu with a := x.value, f := x.flags } := rfl
@[simp] theorem setAcc_sched (x : ByteResult) : (s.setAcc x).sched = s.sched := rfl
@[simp] theorem setAcc_irq (x : ByteResult) : (s.setAcc x).irq = s.irq := rfl
@[simp] theorem setAcc_timer (x : ByteResult) : (s.setAcc x).timer = s.timer := rfl
@[simp] theorem setAcc_serial (x : ByteResult) : (s.setAcc x).serial = s.serial := rfl
@[simp] theorem setAcc_joypad (x : ByteResult) : (s.setAcc x).joypad = s.joypad := rfl
@[simp] theorem setAcc_ppu (x : ByteResult) : (s.setAcc x).ppu = s.ppu := rfl
@[simp] theorem setAcc_dma (x : ByteResult) : (s.setAcc x).dma = s.dma := rfl
@[simp] theorem setAcc_key1 (x : ByteResult) : (s.setAcc x).key1 = s.key1 := rfl
@[simp] theorem setAcc_svbk (x : ByteResult) : (s.setAcc x).svbk = s.svbk := rfl
@[simp] theorem setAcc_mem (x : ByteResult) : (s.setAcc x).mem = s.mem := rfl
@[simp] theorem setAcc_sound (x : ByteResult) : (s.setAcc x).sound = s.sound := rfl
@[simp] theorem setAcc_cart (x : ByteResult) : (s.setAcc x).cart = s.cart := rfl
@[simp] theorem setAcc_inputs (x : ByteResult) : (s.setAcc x).inputs = s.inputs := rfl
@[simp] theorem setAcc_dot (x : ByteResult) : (s.setAcc x).dot = s.dot := rfl
@[simp] theorem setAcc_report (x : ByteResult) : (s.setAcc x).report = s.report := rfl
@[simp] theorem setAcc_freeCount (x : ByteResult) : (s.setAcc x).freeCount = s.freeCount := rfl
@[simp] theorem setAcc_refused (x : ByteResult) : (s.setAcc x).refused = s.refused := rfl
@[simp] theorem setAcc_fatal (x : ByteResult) : (s.setAcc x).fatal = s.fatal := rfl
@[simp] theorem setAcc_params (x : ByteResult) : (s.setAcc x).params = s.params := rfl

@[simp] theorem setPc_cpu (w : Word) : (s.setPc w).cpu = { s.cpu with pc := w } := rfl
@[simp] theorem setPc_sched (w : Word) : (s.setPc w).sched = s.sched := rfl
@[simp] theorem setPc_irq (w : Word) : (s.setPc w).irq = s.irq := rfl
@[simp] theorem setPc_timer (w : Word) : (s.setPc w).timer = s.timer := rfl
@[simp] theorem setPc_serial (w : Word) : (s.setPc w).serial = s.serial := rfl
@[simp] theorem setPc_joypad (w : Word) : (s.setPc w).joypad = s.joypad := rfl
@[simp] theorem setPc_ppu (w : Word) : (s.setPc w).ppu = s.ppu := rfl
@[simp] theorem setPc_dma (w : Word) : (s.setPc w).dma = s.dma := rfl
@[simp] theorem setPc_key1 (w : Word) : (s.setPc w).key1 = s.key1 := rfl
@[simp] theorem setPc_svbk (w : Word) : (s.setPc w).svbk = s.svbk := rfl
@[simp] theorem setPc_mem (w : Word) : (s.setPc w).mem = s.mem := rfl
@[simp] theorem setPc_sound (w : Word) : (s.setPc w).sound = s.sound := rfl
@[simp] theorem setPc_cart (w : Word) : (s.setPc w).cart = s.cart := rfl
@[simp] theorem setPc_inputs (w : Word) : (s.setPc w).inputs = s.inputs := rfl
@[simp] theorem setPc_dot (w : Word) : (s.setPc w).dot = s.dot := rfl
@[simp] theorem setPc_report (w : Word) : (s.setPc w).report = s.report := rfl
@[simp] theorem setPc_freeCount (w : Word) : (s.setPc w).freeCount = s.freeCount := rfl
@[simp] theorem setPc_refused (w : Word) : (s.setPc w).refused = s.refused := rfl
@[simp] theorem setPc_fatal (w : Word) : (s.setPc w).fatal = s.fatal := rfl
@[simp] theorem setPc_params (w : Word) : (s.setPc w).params = s.params := rfl

@[simp] theorem setSp_cpu (w : Word) : (s.setSp w).cpu = { s.cpu with sp := w } := rfl
@[simp] theorem setSp_sched (w : Word) : (s.setSp w).sched = s.sched := rfl
@[simp] theorem setSp_irq (w : Word) : (s.setSp w).irq = s.irq := rfl
@[simp] theorem setSp_timer (w : Word) : (s.setSp w).timer = s.timer := rfl
@[simp] theorem setSp_serial (w : Word) : (s.setSp w).serial = s.serial := rfl
@[simp] theorem setSp_joypad (w : Word) : (s.setSp w).joypad = s.joypad := rfl
@[simp] theorem setSp_ppu (w : Word) : (s.setSp w).ppu = s.ppu := rfl
@[simp] theorem setSp_dma (w : Word) : (s.setSp w).dma = s.dma := rfl
@[simp] theorem setSp_key1 (w : Word) : (s.setSp w).key1 = s.key1 := rfl
@[simp] theorem setSp_svbk (w : Word) : (s.setSp w).svbk = s.svbk := rfl
@[simp] theorem setSp_mem (w : Word) : (s.setSp w).mem = s.mem := rfl
@[simp] theorem setSp_sound (w : Word) : (s.setSp w).sound = s.sound := rfl
@[simp] theorem setSp_cart (w : Word) : (s.setSp w).cart = s.cart := rfl
@[simp] theorem setSp_inputs (w : Word) : (s.setSp w).inputs = s.inputs := rfl
@[simp] theorem setSp_dot (w : Word) : (s.setSp w).dot = s.dot := rfl
@[simp] theorem setSp_report (w : Word) : (s.setSp w).report = s.report := rfl
@[simp] theorem setSp_freeCount (w : Word) : (s.setSp w).freeCount = s.freeCount := rfl
@[simp] theorem setSp_refused (w : Word) : (s.setSp w).refused = s.refused := rfl
@[simp] theorem setSp_fatal (w : Word) : (s.setSp w).fatal = s.fatal := rfl
@[simp] theorem setSp_params (w : Word) : (s.setSp w).params = s.params := rfl

@[simp] theorem setRam_cpu (k : Nat) (v : Byte) : (s.setRam k v).cpu = s.cpu := rfl
@[simp] theorem setRam_sched (k : Nat) (v : Byte) : (s.setRam k v).sched = s.sched := rfl
@[simp] theorem setRam_irq (k : Nat) (v : Byte) : (s.setRam k v).irq = s.irq := rfl
@[simp] theorem setRam_timer (k : Nat) (v : Byte) : (s.setRam k v).timer = s.timer := rfl
@[simp] theorem setRam_serial (k : Nat) (v : Byte) : (s.setRam k v).serial = s.serial := rfl
@[simp] theorem setRam_joypad (k : Nat) (v : Byte) : (s.setRam k v).joypad = s.joypad := rfl
@[simp] theorem setRam_ppu (k : Nat) (v : Byte) : (s.setRam k v).ppu = s.ppu := rfl
@[simp] theorem setRam_dma (k : Nat) (v : Byte) : (s.setRam k v).dma = s.dma := rfl
@[simp] theorem setRam_key1 (k : Nat) (v : Byte) : (s.setRam k v).key1 = s.key1 := rfl
@[simp] theorem setRam_svbk (k : Nat) (v : Byte) : (s.setRam k v).svbk = s.svbk := rfl
@[simp] theorem setRam_mem (k : Nat) (v : Byte) : (s.setRam k v).mem = Memory.set Config.ramBlank s.mem k v := rfl
@[simp] theorem setRam_sound (k : Nat) (v : Byte) : (s.setRam k v).sound = s.sound := rfl
@[simp] theorem setRam_cart (k : Nat) (v : Byte) : (s.setRam k v).cart = s.cart := rfl
@[simp] theorem setRam_inputs (k : Nat) (v : Byte) : (s.setRam k v).inputs = s.inputs := rfl
@[simp] theorem setRam_dot (k : Nat) (v : Byte) : (s.setRam k v).dot = s.dot := rfl
@[simp] theorem setRam_report (k : Nat) (v : Byte) : (s.setRam k v).report = s.report := rfl
@[simp] theorem setRam_freeCount (k : Nat) (v : Byte) : (s.setRam k v).freeCount = s.freeCount := rfl
@[simp] theorem setRam_refused (k : Nat) (v : Byte) : (s.setRam k v).refused = s.refused := rfl
@[simp] theorem setRam_fatal (k : Nat) (v : Byte) : (s.setRam k v).fatal = s.fatal := rfl
@[simp] theorem setRam_params (k : Nat) (v : Byte) : (s.setRam k v).params = s.params := rfl

@[simp] theorem schedule_cpu (k : Nat) (a : Word) (d : BusDir) : (s.schedule k a d).cpu = s.cpu := rfl
@[simp] theorem schedule_sched (k : Nat) (a : Word) (d : BusDir) : (s.schedule k a d).sched = { s.sched with queue := s.sched.queue ++ [{ cycle := s.sched.mcycle + k, addr := a, dir := d }] } := rfl
@[simp] theorem schedule_irq (k : Nat) (a : Word) (d : BusDir) : (s.schedule k a d).irq = s.irq := rfl
@[simp] theorem schedule_timer (k : Nat) (a : Word) (d : BusDir) : (s.schedule k a d).timer = s.timer := rfl
@[simp] theorem schedule_serial (k : Nat) (a : Word) (d : BusDir) : (s.schedule k a d).serial = s.serial := rfl
@[simp] theorem schedule_joypad (k : Nat) (a : Word) (d : BusDir) : (s.schedule k a d).joypad = s.joypad := rfl
@[simp] theorem schedule_ppu (k : Nat) (a : Word) (d : BusDir) : (s.schedule k a d).ppu = s.ppu := rfl
@[simp] theorem schedule_dma (k : Nat) (a : Word) (d : BusDir) : (s.schedule k a d).dma = s.dma := rfl
@[simp] theorem schedule_key1 (k : Nat) (a : Word) (d : BusDir) : (s.schedule k a d).key1 = s.key1 := rfl
@[simp] theorem schedule_svbk (k : Nat) (a : Word) (d : BusDir) : (s.schedule k a d).svbk = s.svbk := rfl
@[simp] theorem schedule_mem (k : Nat) (a : Word) (d : BusDir) : (s.schedule k a d).mem = s.mem := rfl
@[simp] theorem schedule_sound (k : Nat) (a : Word) (d : BusDir) : (s.schedule k a d).sound = s.sound := rfl
@[simp] theorem schedule_cart (k : Nat) (a : Word) (d : BusDir) : (s.schedule k a d).cart = s.cart := rfl
@[simp] theorem schedule_inputs (k : Nat) (a : Word) (d : BusDir) : (s.schedule k a d).inputs = s.inputs := rfl
@[simp] theorem schedule_dot (k : Nat) (a : Word) (d : BusDir) : (s.schedule k a d).dot = s.dot := rfl
@[simp] theorem schedule_report (k : Nat) (a : Word) (d : BusDir) : (s.schedule k a d).report = s.report := rfl
@[simp] theorem schedule_freeCount (k : Nat) (a : Word) (d : BusDir) : (s.schedule k a d).freeCount = s.freeCount := rfl
@[simp] theorem schedule_refused (k : Nat) (a : Word) (d : BusDir) : (s.schedule k a d).refused = s.refused := rfl
@[simp] theorem schedule_fatal (k : Nat) (a : Word) (d : BusDir) : (s.schedule k a d).fatal = s.fatal := rfl
@[simp] theorem schedule_params (k : Nat) (a : Word) (d : BusDir) : (s.schedule k a d).params = s.params := rfl

@[simp] theorem setRemaining_cpu (n : Nat) : (s.setRemaining n).cpu = s.cpu := rfl
@[simp] theorem setRemaining_sched (n : Nat) : (s.setRemaining n).sched = { s.sched with remaining := n } := rfl
@[simp] theorem setRemaining_irq (n : Nat) : (s.setRemaining n).irq = s.irq := rfl
@[simp] theorem setRemaining_timer (n : Nat) : (s.setRemaining n).timer = s.timer := rfl
@[simp] theorem setRemaining_serial (n : Nat) : (s.setRemaining n).serial = s.serial := rfl
@[simp] theorem setRemaining_joypad (n : Nat) : (s.setRemaining n).joypad = s.joypad := rfl
@[simp] theorem setRemaining_ppu (n : Nat) : (s.setRemaining n).ppu = s.ppu := rfl
@[simp] theorem setRemaining_dma (n : Nat) : (s.setRemaining n).dma = s.dma := rfl
@[simp] theorem setRemaining_key1 (n : Nat) : (s.setRemaining n).key1 = s.key1 := rfl
@[simp] theorem setRemaining_svbk (n : Nat) : (s.setRemaining n).svbk = s.svbk := rfl
@[simp] theorem setRemaining_mem (n : Nat) : (s.setRemaining n).mem = s.mem := rfl
@[simp] theorem setRemaining_sound (n : Nat) : (s.setRemaining n).sound = s.sound := rfl
@[simp] theorem setRemaining_cart (n : Nat) : (s.setRemaining n).cart = s.cart := rfl
@[simp] theorem setRemaining_inputs (n : Nat) : (s.setRemaining n).inputs = s.inputs := rfl
@[simp] theorem setRemaining_dot (n : Nat) : (s.setRemaining n).dot = s.dot := rfl
@[simp] theorem setRemaining_report (n : Nat) : (s.setRemaining n).report = s.report := rfl
@[simp] theorem setRemaining_freeCount (n : Nat) : (s.setRemaining n).freeCount = s.freeCount := rfl
@[simp] theorem setRemaining_refused (n : Nat) : (s.setRemaining n).refused = s.refused := rfl
@[simp] theorem setRemaining_fatal (n : Nat) : (s.setRemaining n).fatal = s.fatal := rfl
@[simp] theorem setRemaining_params (n : Nat) : (s.setRemaining n).params = s.params := rfl

@[simp] theorem startDma_cpu (v : Byte) : (s.startDma v).cpu = s.cpu := rfl
@[simp] theorem startDma_sched (v : Byte) : (s.startDma v).sched = s.sched := rfl
@[simp] theorem startDma_irq (v : Byte) : (s.startDma v).irq = s.irq := rfl
@[simp] theorem startDma_timer (v : Byte) : (s.startDma v).timer = s.timer := rfl
@[simp] theorem startDma_serial (v : Byte) : (s.startDma v).serial = s.serial := rfl
@[simp] theorem startDma_joypad (v : Byte) : (s.startDma v).joypad = s.joypad := rfl
@[simp] theorem startDma_ppu (v : Byte) : (s.startDma v).ppu = s.ppu := rfl
@[simp] theorem startDma_dma (v : Byte) : (s.startDma v).dma = { reg := v, active := true, src := pair v 0, index := 0 } := rfl
@[simp] theorem startDma_key1 (v : Byte) : (s.startDma v).key1 = s.key1 := rfl
@[simp] theorem startDma_svbk (v : Byte) : (s.startDma v).svbk = s.svbk := rfl
@[simp] theorem startDma_mem (v : Byte) : (s.startDma v).mem = s.mem := rfl
@[simp] theorem startDma_sound (v : Byte) : (s.startDma v).sound = s.sound := rfl
@[simp] theorem startDma_cart (v : Byte) : (s.startDma v).cart = s.cart := rfl
@[simp] theorem startDma_inputs (v : Byte) : (s.startDma v).inputs = s.inputs := rfl
@[simp] theorem startDma_dot (v : Byte) : (s.startDma v).dot = s.dot := rfl
@[simp] theorem startDma_report (v : Byte) : (s.startDma v).report = s.report := rfl
@[simp] theorem startDma_freeCount (v : Byte) : (s.startDma v).freeCount = s.freeCount := rfl
@[simp] theorem startDma_refused (v : Byte) : (s.startDma v).refused = s.refused := rfl
@[simp] theorem startDma_fatal (v : Byte) : (s.startDma v).fatal = s.fatal := rfl
@[simp] theorem startDma_params (v : Byte) : (s.startDma v).params = s.params := rfl

@[simp] theorem request_cpu (k : Line) : (s.request k).cpu = s.cpu := rfl
@[simp] theorem request_sched (k : Line) : (s.request k).sched = s.sched := rfl
@[simp] theorem request_irq (k : Line) : (s.request k).irq = { s.irq with flags := s.irq.flags ||| BitVec.ofNat 5 (2 ^ k.index) } := rfl
@[simp] theorem request_timer (k : Line) : (s.request k).timer = s.timer := rfl
@[simp] theorem request_serial (k : Line) : (s.request k).serial = s.serial := rfl
@[simp] theorem request_joypad (k : Line) : (s.request k).joypad = s.joypad := rfl
@[simp] theorem request_ppu (k : Line) : (s.request k).ppu = s.ppu := rfl
@[simp] theorem request_dma (k : Line) : (s.request k).dma = s.dma := rfl
@[simp] theorem request_key1 (k : Line) : (s.request k).key1 = s.key1 := rfl
@[simp] theorem request_svbk (k : Line) : (s.request k).svbk = s.svbk := rfl
@[simp] theorem request_mem (k : Line) : (s.request k).mem = s.mem := rfl
@[simp] theorem request_sound (k : Line) : (s.request k).sound = s.sound := rfl
@[simp] theorem request_cart (k : Line) : (s.request k).cart = s.cart := rfl
@[simp] theorem request_inputs (k : Line) : (s.request k).inputs = s.inputs := rfl
@[simp] theorem request_dot (k : Line) : (s.request k).dot = s.dot := rfl
@[simp] theorem request_report (k : Line) : (s.request k).report = s.report := rfl
@[simp] theorem request_freeCount (k : Line) : (s.request k).freeCount = s.freeCount := rfl
@[simp] theorem request_refused (k : Line) : (s.request k).refused = s.refused := rfl
@[simp] theorem request_fatal (k : Line) : (s.request k).fatal = s.fatal := rfl
@[simp] theorem request_params (k : Line) : (s.request k).params = s.params := rfl

@[simp] theorem endCycle_cpu : (s.endCycle).cpu = s.cpu := rfl
@[simp] theorem endCycle_sched : (s.endCycle).sched = { s.sched with mcycle := s.sched.mcycle + 1 } := rfl
@[simp] theorem endCycle_irq : (s.endCycle).irq = s.irq := rfl
@[simp] theorem endCycle_timer : (s.endCycle).timer = s.timer := rfl
@[simp] theorem endCycle_serial : (s.endCycle).serial = s.serial := rfl
@[simp] theorem endCycle_joypad : (s.endCycle).joypad = s.joypad := rfl
@[simp] theorem endCycle_ppu : (s.endCycle).ppu = s.ppu := rfl
@[simp] theorem endCycle_dma : (s.endCycle).dma = { s.dma with active := s.dma.active && s.dma.index != 160 } := rfl
@[simp] theorem endCycle_key1 : (s.endCycle).key1 = s.key1 := rfl
@[simp] theorem endCycle_svbk : (s.endCycle).svbk = s.svbk := rfl
@[simp] theorem endCycle_mem : (s.endCycle).mem = s.mem := rfl
@[simp] theorem endCycle_sound : (s.endCycle).sound = s.sound := rfl
@[simp] theorem endCycle_cart : (s.endCycle).cart = s.cart := rfl
@[simp] theorem endCycle_inputs : (s.endCycle).inputs = s.inputs := rfl
@[simp] theorem endCycle_dot : (s.endCycle).dot = s.dot := rfl
@[simp] theorem endCycle_report : (s.endCycle).report = s.report := rfl
@[simp] theorem endCycle_freeCount : (s.endCycle).freeCount = s.freeCount := rfl
@[simp] theorem endCycle_refused : (s.endCycle).refused = s.refused := rfl
@[simp] theorem endCycle_fatal : (s.endCycle).fatal = s.fatal := rfl
@[simp] theorem endCycle_params : (s.endCycle).params = s.params := rfl

@[simp] theorem acknowledge_cpu (k : Line) : (s.acknowledge k).cpu = { s.cpu with ime := false, eiDelay := 0, haltBug := false } := rfl
@[simp] theorem acknowledge_sched (k : Line) : (s.acknowledge k).sched = { s.sched with remaining := 4 } := rfl
@[simp] theorem acknowledge_irq (k : Line) : (s.acknowledge k).irq = { s.irq with flags := s.irq.flags &&& ~~~(BitVec.ofNat 5 (2 ^ k.index)) } := rfl
@[simp] theorem acknowledge_timer (k : Line) : (s.acknowledge k).timer = s.timer := rfl
@[simp] theorem acknowledge_serial (k : Line) : (s.acknowledge k).serial = s.serial := rfl
@[simp] theorem acknowledge_joypad (k : Line) : (s.acknowledge k).joypad = s.joypad := rfl
@[simp] theorem acknowledge_ppu (k : Line) : (s.acknowledge k).ppu = s.ppu := rfl
@[simp] theorem acknowledge_dma (k : Line) : (s.acknowledge k).dma = s.dma := rfl
@[simp] theorem acknowledge_key1 (k : Line) : (s.acknowledge k).key1 = s.key1 := rfl
@[simp] theorem acknowledge_svbk (k : Line) : (s.acknowledge k).svbk = s.svbk := rfl
@[simp] theorem acknowledge_mem (k : Line) : (s.acknowledge k).mem = s.mem := rfl
@[simp] theorem acknowledge_sound (k : Line) : (s.acknowledge k).sound = s.sound := rfl
@[simp] theorem acknowledge_cart (k : Line) : (s.acknowledge k).cart = s.cart := rfl
@[simp] theorem acknowledge_inputs (k : Line) : (s.acknowledge k).inputs = s.inputs := rfl
@[simp] theorem acknowledge_dot (k : Line) : (s.acknowledge k).dot = s.dot := rfl
@[simp] theorem acknowledge_report (k : Line) : (s.acknowledge k).report = s.report := rfl
@[simp] theorem acknowledge_freeCount (k : Line) : (s.acknowledge k).freeCount = s.freeCount := rfl
@[simp] theorem acknowledge_refused (k : Line) : (s.acknowledge k).refused = s.refused := rfl
@[simp] theorem acknowledge_fatal (k : Line) : (s.acknowledge k).fatal = s.fatal := rfl
@[simp] theorem acknowledge_params (k : Line) : (s.acknowledge k).params = s.params := rfl

end Sys2Proof.Machine
end

