-- ==== Sys2Proof/Laws/Time.lean ====
section
/-! SUPPORT. What the passing of time can change: one dot, several dots, the DMA step, a machine cycle. Everything not named in `Kept` the
peripherals may change; what is named they keep. -/

namespace Sys2Proof.Machine

/-- What a dot of the peripherals keeps: the core but for `stopped`, which a button press may clear; the scheduling state; every memory; the
cartridge; the DMA engine; every register that only software writes. -/
structure Kept (s t : State) : Prop where
  cpu : t.cpu = { s.cpu with stopped := t.cpu.stopped }
  awake : s.cpu.stopped = false → t.cpu.stopped = false
  sched : t.sched = s.sched
  mem : t.mem = s.mem
  sound : t.sound = s.sound
  cart : t.cart = s.cart
  dma : t.dma = s.dma
  key1 : t.key1 = s.key1
  svbk : t.svbk = s.svbk
  freeCount : t.freeCount = s.freeCount
  params : t.params = s.params
  enable : t.irq.enable = s.irq.enable
  tma : t.timer.tma = s.timer.tma
  tac : t.timer.tac = s.timer.tac
  fast : t.serial.fast = s.serial.fast
  clock : t.serial.clock = s.serial.clock
  sel : t.joypad.sel = s.joypad.sel
  lcdc : t.ppu.lcdc = s.ppu.lcdc
  statSel : t.ppu.statSel = s.ppu.statSel
  scy : t.ppu.scy = s.ppu.scy
  scx : t.ppu.scx = s.ppu.scx
  lyc : t.ppu.lyc = s.ppu.lyc
  bgp : t.ppu.bgp = s.ppu.bgp
  obp0 : t.ppu.obp0 = s.ppu.obp0
  obp1 : t.ppu.obp1 = s.ppu.obp1
  wy : t.ppu.wy = s.ppu.wy
  wx : t.ppu.wx = s.ppu.wx
  fatal : t.fatal = s.fatal

theorem Kept.refl (s : State) : Kept s s := by
  constructor <;> first | rfl | exact id

theorem Kept.trans {s t u : State} (h : Kept s t) (k : Kept t u) : Kept s u := by
  constructor
  · rw [k.cpu, h.cpu]
  · exact fun e => k.awake (h.awake e)
  · rw [k.sched, h.sched]
  · rw [k.mem, h.mem]
  · rw [k.sound, h.sound]
  · rw [k.cart, h.cart]
  · rw [k.dma, h.dma]
  · rw [k.key1, h.key1]
  · rw [k.svbk, h.svbk]
  · rw [k.freeCount, h.freeCount]
  · rw [k.params, h.params]
  · rw [k.enable, h.enable]
  · rw [k.tma, h.tma]
  · rw [k.tac, h.tac]
  · rw [k.fast, h.fast]
  · rw [k.clock, h.clock]
  · rw [k.sel, h.sel]
  · rw [k.lcdc, h.lcdc]
  · rw [k.statSel, h.statSel]
  · rw [k.scy, h.scy]
  · rw [k.scx, h.scx]
  · rw [k.lyc, h.lyc]
  · rw [k.bgp, h.bgp]
  · rw [k.obp0, h.obp0]
  · rw [k.obp1, h.obp1]
  · rw [k.wy, h.wy]
  · rw [k.wx, h.wx]
  · rw [k.fatal, h.fatal]

theorem request_kept (k : Line) (s : State) : Kept s (s.request k) := by
  constructor <;> first | rfl | exact id

theorem frameEnd_kept (s : State) : Kept s s.frameEnd := by
  unfold State.frameEnd
  split <;> constructor <;> first | rfl | exact id

theorem setButton_sel (w : Button) (b : Bool) (j : Joypad) : (j.setButton w b).sel = j.sel := by
  cases w <;> rfl

theorem buttonEvent_kept (e : ButtonEvent) (s : State) : Kept s (s.buttonEvent e) := by
  have h : Kept s { s with
      joypad := s.joypad.setButton e.button e.pressed
      cpu := { s.cpu with stopped := s.cpu.stopped && !e.pressed } } := by
    constructor <;> first | rfl | (intro h; simp [h]) | exact setButton_sel _ _ _
  unfold State.buttonEvent
  dsimp only
  split
  · exact Kept.trans h (request_kept _ _)
  · exact h

theorem deliverEvents_kept (es : List ButtonEvent) (s : State) : Kept s (deliverEvents es s) := by
  induction es generalizing s with
  | nil => constructor <;> first | rfl | exact id
  | cons e es ih =>
    unfold deliverEvents
    split
    · exact (buttonEvent_kept e s).trans (ih _)
    · constructor <;> first | rfl | exact id

/-- After a count or a write the timer changes TIMA and its gate bit, and may request an interrupt, under every `timerModel`. -/
theorem timerEdge_change (e : Config.TimerEvent) (s : State) :
    ∃ a g q, s.timerEdge e = { s with timer := { s.timer with tima := a, gate := g }, irq := { s.irq with flags := q } } := by
  unfold State.timerEdge State.gateEdge State.otherTimer State.timaIncrement
  dsimp only
  repeat' split
  all_goals exact ⟨_, _, _, rfl⟩

theorem timerEdge_kept (e : Config.TimerEvent) (s : State) : Kept s (s.timerEdge e) := by
  obtain ⟨a, g, q, h⟩ := timerEdge_change e s
  rw [h]
  constructor <;> first | rfl | exact id

theorem timerDot_kept (s : State) : Kept s s.timerDot := by
  have h : Kept s { s with timer := { s.timer with sys := s.nextSys } } := by
    constructor <;> first | rfl | exact id
  exact h.trans (timerEdge_kept _ _)

/-- What a change of the pipeline's own counters and lists keeps. -/
theorem ppu_kept (s : State) (p : Ppu) (h1 : p.lcdc = s.ppu.lcdc) (h2 : p.statSel = s.ppu.statSel) (h3 : p.scy = s.ppu.scy)
    (h4 : p.scx = s.ppu.scx) (h5 : p.lyc = s.ppu.lyc) (h6 : p.bgp = s.ppu.bgp) (h7 : p.obp0 = s.ppu.obp0)
    (h8 : p.obp1 = s.ppu.obp1) (h9 : p.wy = s.ppu.wy) (h10 : p.wx = s.ppu.wx) : Kept s { s with ppu := p } := by
  constructor <;> first | rfl | exact id | assumption

theorem markRefused_kept (f : Feature) (s : State) : Kept s (s.markRefused f) := by
  unfold State.markRefused
  split <;> constructor <;> first | rfl | exact id

theorem statDot_kept (s : State) : Kept s s.statDot := by
  unfold State.statDot
  dsimp only
  split
  · refine Kept.trans ?_ (request_kept _ _)
    exact ppu_kept s _ rfl rfl rfl rfl rfl rfl rfl rfl rfl rfl
  · exact ppu_kept s _ rfl rfl rfl rfl rfl rfl rfl rfl rfl rfl

theorem lineAdvance_kept (s : State) : Kept s s.lineAdvance := by
  unfold State.lineAdvance
  dsimp only
  repeat' split
  all_goals first
    | exact ppu_kept s _ rfl rfl rfl rfl rfl rfl rfl rfl rfl rfl
    | (refine Kept.trans ?_ (request_kept _ _)
       exact ppu_kept s _ rfl rfl rfl rfl rfl rfl rfl rfl rfl rfl)

theorem examine_kept (i : Nat) (s : State) : Kept s (s.examine i) := by
  unfold State.examine
  dsimp only
  split
  · exact ppu_kept s _ rfl rfl rfl rfl rfl rfl rfl rfl rfl rfl
  · exact Kept.refl s

theorem startLine_kept (s : State) : Kept s s.startLine := by
  unfold State.startLine
  dsimp only
  split
  · refine Kept.trans (Kept.trans ?_ (markRefused_kept _ _)) (examine_kept _ _)
    exact ppu_kept s _ rfl rfl rfl rfl rfl rfl rfl rfl rfl rfl
  · refine Kept.trans ?_ (examine_kept _ _)
    exact ppu_kept s _ rfl rfl rfl rfl rfl rfl rfl rfl rfl rfl

theorem startTransfer_kept (s : State) : Kept s s.startTransfer := by
  unfold State.startTransfer
  dsimp only
  split
  · refine Kept.trans ?_ (markRefused_kept _ _)
    exact ppu_kept s _ rfl rfl rfl rfl rfl rfl rfl rfl rfl rfl
  · exact ppu_kept s _ rfl rfl rfl rfl rfl rfl rfl rfl rfl rfl

theorem sampleGroup_kept (s : State) : Kept s s.sampleGroup := by
  unfold State.sampleGroup
  split
  · exact ppu_kept s _ rfl rfl rfl rfl rfl rfl rfl rfl rfl rfl
  · exact Kept.refl s

theorem emit_kept (s : State) : Kept s s.emit := by
  unfold State.emit
  dsimp only
  split
  · exact ppu_kept s _ rfl rfl rfl rfl rfl rfl rfl rfl rfl rfl
  · exact Kept.refl s

theorem lineEvents_kept (s : State) : Kept s s.lineEvents := by
  unfold State.lineEvents
  repeat' split
  · exact Kept.refl s
  · exact startLine_kept s
  · exact examine_kept _ s
  · exact Kept.refl s
  · exact startTransfer_kept s
  · exact (sampleGroup_kept s).trans (emit_kept _)

theorem ppuDot_kept (s : State) : Kept s s.ppuDot := by
  unfold State.ppuDot
  split
  · exact ((lineAdvance_kept s).trans (lineEvents_kept _)).trans (statDot_kept _)
  · exact statDot_kept s

/-- A dot of the serial collaborator changes SB, SC bit 7 and what is due, and may request an interrupt, under every `serialEvent`. -/
theorem serialDot_change (s : State) : ∃ b g d q, s.serialDot =
    { s with serial := { s.serial with sb := b, start := g, due := d }, irq := { s.irq with flags := q } } := by
  unfold State.serialDot State.standardSerialDot State.otherSerialDot State.serialDone State.request
  dsimp only
  repeat' split
  all_goals exact ⟨_, _, _, _, rfl⟩

theorem serialDot_kept (s : State) : Kept s s.serialDot := by
  obtain ⟨b, g, d, q, h⟩ := serialDot_change s
  rw [h]
  constructor <;> first | rfl | exact id

/-- A dot keeps what `Kept` names. -/
theorem tickDot_kept (s : State) : Kept s s.tickDot := by
  have h := (((frameEnd_kept s).trans (deliverEvents_kept s.frameEnd.inputs _)).trans (timerDot_kept _)).trans
    ((ppuDot_kept _).trans (serialDot_kept _))
  refine h.trans ?_
  constructor <;> first | rfl | exact id

/-- Several dots keep what `Kept` names. -/
theorem ticks_kept (n : Nat) (s : State) : Kept s (State.ticks n s) := by
  induction n generalizing s with
  | zero => exact Kept.refl s
  | succ n ih => exact (tickDot_kept s).trans (ih _)

/-- A dot counts. -/
theorem deliverEvents_dot (es : List ButtonEvent) (s : State) : (deliverEvents es s).dot = s.dot := by
  induction es generalizing s with
  | nil => rfl
  | cons e es ih =>
    unfold deliverEvents
    split
    · rw [ih]
      unfold State.buttonEvent
      dsimp only
      split <;> rfl
    · rfl

theorem timerDot_dot (s : State) : s.timerDot.dot = s.dot := by
  obtain ⟨a, g, q, h⟩ := timerEdge_change .count { s with timer := { s.timer with sys := s.nextSys } }
  unfold State.timerDot
  rw [h]

theorem markRefused_dot (f : Feature) (s : State) : (s.markRefused f).dot = s.dot := by
  unfold State.markRefused
  split <;> rfl

theorem examine_dot (i : Nat) (s : State) : (s.examine i).dot = s.dot := by
  unfold State.examine
  dsimp only
  split <;> rfl

theorem ppuDot_dot (s : State) : s.ppuDot.dot = s.dot := by
  have h1 : ∀ t : State, t.statDot.dot = t.dot := by
    intro t
    unfold State.statDot
    dsimp only
    split <;> rfl
  have h2 : ∀ t : State, t.lineAdvance.dot = t.dot := by
    intro t
    unfold State.lineAdvance
    dsimp only
    repeat' split
    all_goals rfl
  have h3 : ∀ t : State, t.lineEvents.dot = t.dot := by
    intro t
    unfold State.lineEvents State.startLine State.startTransfer State.sampleGroup State.emit
    dsimp only
    repeat' split
    all_goals simp only [examine_dot, markRefused_dot]
  unfold State.ppuDot
  split
  · rw [h1, h3, h2]
  · rw [h1]

theorem serialDot_dot (s : State) : s.serialDot.dot = s.dot := by
  obtain ⟨b, g, d, q, h⟩ := serialDot_change s
  rw [h]

theorem tickDot_dot (s : State) : s.tickDot.dot = s.dot + 1 := by
  have h : s.frameEnd.dot = s.dot := by
    unfold State.frameEnd
    split <;> rfl
  show (State.serialDot _).dot + 1 = _
  rw [serialDot_dot, ppuDot_dot, timerDot_dot, deliverEvents_dot, h]

theorem ticks_dot (n : Nat) (s : State) : (State.ticks n s).dot = s.dot + n := by
  induction n generalizing s with
  | zero => rfl
  | succ n ih => rw [State.ticks, ih, tickDot_dot]; omega

/-! ### The DMA step and the machine cycle -/

/-- What the DMA step changes: OAM, its index, the free-value counter and the fatal mark. -/
theorem dmaStep_eq (s : State) :
    ∃ m i n f, s.dmaStep = { s with mem := m, dma := { s.dma with index := i }, freeCount := n, fatal := f } := by
  unfold State.dmaStep State.markFatal State.setRam
  dsimp only
  repeat' split
  all_goals exact ⟨_, _, _, _, rfl⟩

/-- The DMA step writes no byte outside OAM. -/
theorem dmaStep_ram (s : State) (h : Memory.wf Config.ramBlank s.mem) (k : Nat) (hk : k < 0xFE00 ∨ 0xFEA0 ≤ k) :
    s.dmaStep.ram k = s.ram k := by
  unfold State.dmaStep
  split
  · rename_i hi
    have hne : k ≠ 0xFE00 + s.dma.index := by omega
    have : ∀ (m : Option String) (t : State), (State.markFatal m t).mem = t.mem := by
      intro m t
      unfold State.markFatal
      repeat' split
      all_goals rfl
    simp only [State.ram, this, setRam_mem]
    exact Memory.get_set_other _ _ _ _ h hne
  · rfl

/-- What the beginning of a machine cycle keeps of the core. -/
theorem beginCycle_cpu (s : State) : s.beginCycle.cpu = { s.cpu with stopped := s.beginCycle.cpu.stopped } := by
  obtain ⟨m, d, n, f, e⟩ := dmaStep_eq (State.ticks s.dotsToCore s)
  have h := (ticks_kept s.dotsToCore s).cpu
  unfold State.beginCycle
  rw [e]
  exact h

theorem beginCycle_awake (s : State) (h : s.cpu.stopped = false) : s.beginCycle.cpu = s.cpu := by
  obtain ⟨m, d, n, f, e⟩ := dmaStep_eq (State.ticks s.dotsToCore s)
  have h1 := (ticks_kept s.dotsToCore s).cpu
  have h2 := (ticks_kept s.dotsToCore s).awake h
  unfold State.beginCycle
  rw [e]
  show (State.ticks s.dotsToCore s).cpu = s.cpu
  rw [h1, h2, ← h]

theorem beginCycle_sched (s : State) : s.beginCycle.sched = s.sched := by
  obtain ⟨m, d, n, f, e⟩ := dmaStep_eq (State.ticks s.dotsToCore s)
  unfold State.beginCycle
  rw [e]
  exact (ticks_kept s.dotsToCore s).sched

theorem beginCycle_ram (s : State) (h : Memory.wf Config.ramBlank s.mem) (k : Nat) (hk : k < 0xFE00 ∨ 0xFEA0 ≤ k) :
    s.beginCycle.ram k = s.ram k := by
  have hm := (ticks_kept s.dotsToCore s).mem
  unfold State.beginCycle
  rw [dmaStep_ram _ (by rw [hm]; exact h) k hk]
  unfold State.ram
  rw [hm]

/-- The state between two machine cycles of an instruction, before the dots of the next one. -/
def State.counted (s : State) : State :=
  { s.endCycle with sched := { s.endCycle.sched with remaining := s.endCycle.sched.remaining - 1 } }

/-- A machine cycle: the peripherals' dots keep what `Kept` names, then the DMA step. -/
theorem nextCycle_split (s : State) : ∃ u, Kept s.counted u ∧ s.nextCycle = u.dmaStep :=
  ⟨State.ticks s.counted.dotsToCore s.counted, ticks_kept _ _, rfl⟩

theorem nextCycle_cpu (s : State) : s.nextCycle.cpu = { s.cpu with stopped := s.nextCycle.cpu.stopped } :=
  beginCycle_cpu _

theorem nextCycle_awake (s : State) (h : s.cpu.stopped = false) : s.nextCycle.cpu = s.cpu :=
  beginCycle_awake _ h

/-- A machine cycle counts itself and takes one off the cycles still to run. -/
theorem nextCycle_sched (s : State) :
    s.nextCycle.sched = { s.sched with mcycle := s.sched.mcycle + 1, remaining := s.sched.remaining - 1 } :=
  beginCycle_sched _

theorem nextCycle_ram (s : State) (h : Memory.wf Config.ramBlank s.mem) (k : Nat) (hk : k < 0xFE00 ∨ 0xFEA0 ≤ k) :
    s.nextCycle.ram k = s.ram k := by
  unfold State.nextCycle
  rw [beginCycle_ram _ (by exact h) k hk]
  rfl

end Sys2Proof.Machine
end

