-- ==== Sys2Proof/Laws/Queue.lean ====
section
/-! SUPPORT. The peripherals do not see the core's scheduling state, so an access scheduled for the next machine cycle is performed in it and
nothing else is; one lemma each for `readNext` and `writeNext`. -/

namespace Sys2Proof.Machine

/-- Replace the scheduling state. -/
def State.withSched (c : Sched) (s : State) : State := { s with sched := c }

@[simp] theorem withSched_sched (c : Sched) (s : State) : (s.withSched c).sched = c := rfl

/-- Both branches of a conditional. -/
theorem ite_withSched {c : Sched} {p : Prop} [Decidable p] {a b a' b' : State} (ha : a' = a.withSched c) (hb : b' = b.withSched c) :
    (if p then a' else b') = (if p then a else b).withSched c := by
  split <;> assumption

theorem request_withSched (k : Line) (c : Sched) (s : State) : (s.withSched c).request k = (s.request k).withSched c := rfl

theorem markRefused_withSched (f : Feature) (c : Sched) (s : State) :
    (s.withSched c).markRefused f = (s.markRefused f).withSched c :=
  ite_withSched (p := s.refused = none ∧ s.fatal = none) rfl rfl

theorem markFatal_withSched (m : Option String) (c : Sched) (s : State) :
    (s.withSched c).markFatal m = (s.markFatal m).withSched c := by
  cases m with
  | none => rfl
  | some t => exact ite_withSched (p := s.refused = none ∧ s.fatal = none) rfl rfl

theorem frameEnd_withSched (c : Sched) (s : State) : (s.withSched c).frameEnd = s.frameEnd.withSched c :=
  ite_withSched (p := 0 < s.dot ∧ s.dot % 70224 = 0) rfl rfl

theorem buttonEvent_withSched (e : ButtonEvent) (c : Sched) (s : State) :
    (s.withSched c).buttonEvent e = (s.buttonEvent e).withSched c :=
  ite_withSched (p := s.joypadRequests (s.joypad.setButton e.button e.pressed) = true) rfl rfl

theorem deliverEvents_withSched (es : List ButtonEvent) (c : Sched) (s : State) :
    deliverEvents es (s.withSched c) = (deliverEvents es s).withSched c := by
  induction es generalizing s with
  | nil => rfl
  | cons e es ih =>
    exact ite_withSched (p := e.dot ≤ s.dot) (by rw [buttonEvent_withSched, ih]) rfl

/-- The same for a choice by a parameter's model. -/
theorem model_withSched {c : Sched} {m : Model} {a a' : State} {b b' : Nat → State} (ha : a' = a.withSched c)
    (hb : ∀ n, b' n = (b n).withSched c) :
    (match m with | .standard => a' | .other n => b' n) = (match m with | .standard => a | .other n => b n : State).withSched c := by
  cases m
  · exact ha
  · exact hb _

theorem timerEdge_withSched (e : Config.TimerEvent) (c : Sched) (s : State) :
    (s.withSched c).timerEdge e = (s.timerEdge e).withSched c :=
  model_withSched (m := s.params.timerModel)
    (ite_withSched (p := (s.timer.gate && !s.timer.gated) = true) (ite_withSched (p := s.timer.tima = 0xFF) rfl rfl) rfl)
    (fun n => ite_withSched (p := Config.timerRequest n s.dot e s.timer = true) rfl rfl)

theorem timerDot_withSched (c : Sched) (s : State) : (s.withSched c).timerDot = s.timerDot.withSched c :=
  timerEdge_withSched .count c { s with timer := { s.timer with sys := s.nextSys } }

theorem statDot_withSched (c : Sched) (s : State) : (s.withSched c).statDot = s.statDot.withSched c :=
  ite_withSched (p := (s.statNow && !s.statBefore) = true) rfl rfl

theorem lineAdvance_withSched (c : Sched) (s : State) : (s.withSched c).lineAdvance = s.lineAdvance.withSched c :=
  ite_withSched (p := s.ppu.lineDot + 1 = 456)
    (ite_withSched (p := (if s.ppu.ly + 1 = 154 then 0 else s.ppu.ly + 1) = 144) rfl rfl) rfl

theorem examine_withSched (i : Nat) (c : Sched) (s : State) : (s.withSched c).examine i = (s.examine i).withSched c :=
  ite_withSched (p := (decide (s.ppu.candidates.length < 10) && (s.oamEntry i).selected s.ppu.ly) = true) rfl rfl

theorem startLine_withSched (c : Sched) (s : State) : (s.withSched c).startLine = s.startLine.withSched c := by
  simp only [State.startLine]
  rw [← examine_withSched]
  congr 1
  exact ite_withSched (p := (bitOf s.ppu.lcdc 2 && bitOf s.ppu.lcdc 1) = true)
    (markRefused_withSched _ c { s with ppu := { s.ppu with candidates := [], samples := [] } }) rfl

theorem startTransfer_withSched (c : Sched) (s : State) : (s.withSched c).startTransfer = s.startTransfer.withSched c :=
  ite_withSched (p := bitOf s.ppu.lcdc 5 = true)
    (markRefused_withSched _ c
      { s with ppu := { s.ppu with transfer := s.transferDots, samples := [s.ppu.bgSample] } }) rfl

theorem sampleGroup_withSched (c : Sched) (s : State) : (s.withSched c).sampleGroup = s.sampleGroup.withSched c :=
  ite_withSched (p := s.params.bgSampling = .perTile ∧ s.ppu.mode = .lcdTransfer ∧ (s.ppu.lineDot - 80) % 8 = 0) rfl rfl

theorem emit_withSched (c : Sched) (s : State) : (s.withSched c).emit = s.emit.withSched c := by
  have h : (s.withSched c).pixelShade = s.pixelShade := rfl
  have hp : (s.withSched c).ppu = s.ppu := rfl
  unfold State.emit
  rw [h, hp]
  generalize s.pixelShade = g
  dsimp only
  exact ite_withSched rfl rfl

theorem lineEvents_withSched (c : Sched) (s : State) : (s.withSched c).lineEvents = s.lineEvents.withSched c :=
  ite_withSched (p := s.ppu.ly ≥ 144) rfl
    (ite_withSched (p := s.ppu.lineDot = 0) (startLine_withSched c s)
      (ite_withSched (p := s.ppu.lineDot < 80)
        (ite_withSched (p := s.ppu.lineDot % 2 = 0) (examine_withSched _ c s) rfl)
        (ite_withSched (p := s.ppu.lineDot = 80) (startTransfer_withSched c s)
          (by rw [sampleGroup_withSched, emit_withSched]))))

theorem ppuDot_withSched (c : Sched) (s : State) : (s.withSched c).ppuDot = s.ppuDot.withSched c :=
  ite_withSched (p := s.ppu.lcdOn = true) (by rw [lineAdvance_withSched, lineEvents_withSched, statDot_withSched])
    (statDot_withSched c s)

theorem serialDot_withSched (c : Sched) (s : State) : (s.withSched c).serialDot = s.serialDot.withSched c :=
  model_withSched (m := s.params.serialEvent) (ite_withSched (p := s.dot ∈ s.serial.due) rfl rfl) (fun n => by
    show (match Config.serialReceived n s.dot s.serial with | some v => (s.withSched c).serialDone v | none => s.withSched c) = _
    unfold State.otherSerialDot
    cases Config.serialReceived n s.dot s.serial <;> rfl)

theorem tickDot_withSched (c : Sched) (s : State) : (s.withSched c).tickDot = s.tickDot.withSched c := by
  have h : ∀ t : State, (t.withSched c).inputs = t.inputs := fun _ => rfl
  simp only [State.tickDot]
  rw [frameEnd_withSched, h, deliverEvents_withSched, timerDot_withSched, ppuDot_withSched, serialDot_withSched]
  rfl

theorem ticks_withSched (n : Nat) (c : Sched) (s : State) : State.ticks n (s.withSched c) = (State.ticks n s).withSched c := by
  induction n generalizing s with
  | zero => rfl
  | succ n ih => rw [State.ticks, tickDot_withSched, ih]; rfl

theorem dmaStep_withSched (c : Sched) (s : State) : (s.withSched c).dmaStep = s.dmaStep.withSched c := by
  refine ite_withSched (p := s.dma.active = true ∧ s.dma.index < 160) ?_ rfl
  have e : (s.withSched c).setRam (0xFE00 + s.dma.index)
      ((s.withSched c).dmaRead (s.dma.src + BitVec.ofNat 16 s.dma.index)) =
      (s.setRam (0xFE00 + s.dma.index) (s.dmaRead (s.dma.src + BitVec.ofNat 16 s.dma.index))).withSched c := rfl
  have e2 : (s.withSched c).readFatal (s.dma.src + BitVec.ofNat 16 s.dma.index) =
      s.readFatal (s.dma.src + BitVec.ofNat 16 s.dma.index) := rfl
  have e3 : (s.withSched c).dma = s.dma := rfl
  simp only [e, e2, e3, markFatal_withSched]
  rfl

/-- The beginning of a machine cycle does not see the scheduling state. -/
theorem beginCycle_withSched (c : Sched) (s : State) : (s.withSched c).beginCycle = s.beginCycle.withSched c := by
  have h : (s.withSched c).dotsToCore = s.dotsToCore := rfl
  simp only [State.beginCycle]
  rw [h, ticks_withSched, dmaStep_withSched]

/-- With one access due in this machine cycle and no other outstanding, servicing performs it. -/
theorem service_one (o : BusOp) (t : State) (h0 : t.sched.queue = []) (h1 : o.cycle = t.sched.mcycle) :
    (t.withSched { t.sched with queue := [o] }).service = t.perform o := by
  obtain ⟨_, ⟨r, m, q, l, a⟩, _, _, _, _, _, _, _, _, _, _, _, _, _, _, _, _, _, _⟩ := t
  simp only at h0 h1
  subst h0
  subst h1
  simp [State.service, State.withSched, performAll]

/-- Scheduling for the next offset, and that machine cycle passing. -/
theorem schedule_nextCycle (a : Word) (d : BusDir) (s : State) (h : s.sched.queue = []) :
    (s.schedule 1 a d).nextCycle =
      s.nextCycle.withSched { s.nextCycle.sched with queue := [{ cycle := s.sched.mcycle + 1, addr := a, dir := d }] } := by
  rw [nextCycle_sched]
  unfold State.nextCycle
  rw [← beginCycle_withSched]
  simp only [State.schedule, State.withSched, State.endCycle, h, List.nil_append]

theorem nextCycle_queue (s : State) : s.nextCycle.sched.queue = s.sched.queue := by rw [nextCycle_sched]

theorem nextCycle_mcycle (s : State) : s.nextCycle.sched.mcycle = s.sched.mcycle + 1 := by rw [nextCycle_sched]

/-- A read at the next offset, with no other access outstanding: the machine cycle passes and the router's answer in it is delivered
(20_memory.md R120 to R122). -/
theorem readNext_eq (a : Word) (s : State) (h : s.sched.queue = []) :
    s.readNext a = s.nextCycle.perform { cycle := s.sched.mcycle + 1, addr := a, dir := .read } := by
  unfold State.readNext
  rw [schedule_nextCycle a .read s h]
  exact service_one _ _ ((nextCycle_queue s).trans h) (nextCycle_mcycle s).symm

/-- A write at the next offset, with no other access outstanding: the machine cycle passes and the router takes the byte in it
(20_memory.md R120, R121). -/
theorem writeNext_eq (a : Word) (v : Byte) (s : State) (h : s.sched.queue = []) :
    s.writeNext a v = s.nextCycle.routerWrite a v := by
  unfold State.writeNext
  rw [schedule_nextCycle a (.write v) s h]
  exact service_one _ _ ((nextCycle_queue s).trans h) (nextCycle_mcycle s).symm

/-- An access in the current machine cycle (the opcode fetch). -/
theorem schedule_service (a : Word) (d : BusDir) (s : State) (h : s.sched.queue = []) :
    (s.schedule 0 a d).service = s.perform { cycle := s.sched.mcycle, addr := a, dir := d } := by
  have e : s.schedule 0 a d = s.withSched { s.sched with queue := [{ cycle := s.sched.mcycle, addr := a, dir := d }] } := by
    simp only [State.schedule, State.withSched, h, List.nil_append, Nat.add_zero]
  rw [e]
  exact service_one _ _ h rfl

end Sys2Proof.Machine
end

