-- ==== Sys2Proof/Laws/Access.lean ====
section
/-! SUPPORT. What an access changes: the router's write, the marks, one machine cycle with a read or a write in it, a push and a pop. -/

namespace Sys2Proof.Machine

/-! ### The marks -/

/-- The fatal mark changes nothing else. -/
theorem markFatal_eq (m : Option String) (s : State) : ∃ f, State.markFatal m s = { s with fatal := f } := by
  unfold State.markFatal
  repeat' split
  all_goals exact ⟨_, rfl⟩

/-- The refusal mark changes nothing else. -/
theorem markRefused_eq (f : Feature) (s : State) : ∃ r, s.markRefused f = { s with refused := r } := by
  unfold State.markRefused
  split
  all_goals exact ⟨_, rfl⟩

@[simp] theorem markFatal_cpu (m : Option String) (s : State) : (s.markFatal m).cpu = s.cpu := by
  obtain ⟨f, e⟩ := markFatal_eq m s; rw [e]

@[simp] theorem markFatal_sched (m : Option String) (s : State) : (s.markFatal m).sched = s.sched := by
  obtain ⟨f, e⟩ := markFatal_eq m s; rw [e]

@[simp] theorem markFatal_mem (m : Option String) (s : State) : (s.markFatal m).mem = s.mem := by
  obtain ⟨f, e⟩ := markFatal_eq m s; rw [e]

@[simp] theorem markFatal_dma (m : Option String) (s : State) : (s.markFatal m).dma = s.dma := by
  obtain ⟨f, e⟩ := markFatal_eq m s; rw [e]

@[simp] theorem markRefused_cpu (f : Feature) (s : State) : (s.markRefused f).cpu = s.cpu := by
  obtain ⟨r, e⟩ := markRefused_eq f s; rw [e]

@[simp] theorem markRefused_sched (f : Feature) (s : State) : (s.markRefused f).sched = s.sched := by
  obtain ⟨r, e⟩ := markRefused_eq f s; rw [e]

@[simp] theorem markRefused_mem (f : Feature) (s : State) : (s.markRefused f).mem = s.mem := by
  obtain ⟨r, e⟩ := markRefused_eq f s; rw [e]

/-! ### The router's write -/

/-- The I/O writes that are more than a field update: each changes only the peripheral it belongs to, an interrupt request and a mark. -/
theorem timerEdge_eq (e : Config.TimerEvent) (s : State) : ∃ t q, s.timerEdge e = { s with timer := t, irq := q } := by
  obtain ⟨a, g, q, h⟩ := timerEdge_change e s
  exact ⟨_, _, h⟩

theorem writeDiv_eq (s : State) : ∃ t q, s.writeDiv = { s with timer := t, irq := q } :=
  timerEdge_eq .divWrite { s with timer := { s.timer with sys := 0 } }

theorem writeTac_eq (v : Byte) (s : State) : ∃ t q, s.writeTac v = { s with timer := t, irq := q } :=
  timerEdge_eq .tacWrite { s with timer := { s.timer with tac := BitVec.ofNat 3 v.toNat } }

theorem standardSerial_eq (s : State) : ∃ t, s.standardSerial = { s with serial := t } := by
  unfold State.standardSerial
  split
  all_goals exact ⟨_, rfl⟩

theorem otherSerial_eq (n : Nat) (s : State) : ∃ t, s.otherSerial n = { s with serial := t } := by
  unfold State.otherSerial
  split
  all_goals exact ⟨_, rfl⟩

theorem writeSc_eq (v : Byte) (s : State) : ∃ t r, s.writeSc v = { s with serial := t, refused := r } := by
  unfold State.writeSc
  split
  · obtain ⟨r, e⟩ := markRefused_eq .highSpeedSerial s
    exact ⟨s.serial, r, e⟩
  · have h (t : Serial) (m : Model) : ∃ t' r, (match m with
        | .standard => State.standardSerial { s with serial := t }
        | .other n => State.otherSerial n { s with serial := t }) = { s with serial := t', refused := r } := by
      cases m with
      | standard => obtain ⟨u, e⟩ := standardSerial_eq { s with serial := t }; exact ⟨u, s.refused, e⟩
      | other n => obtain ⟨u, e⟩ := otherSerial_eq n { s with serial := t }; exact ⟨u, s.refused, e⟩
    exact h _ _

theorem examine_eq (i : Nat) (s : State) : ∃ p, s.examine i = { s with ppu := p } := by
  unfold State.examine
  dsimp only
  split
  all_goals exact ⟨_, rfl⟩

theorem startLine_eq (s : State) : ∃ p r, s.startLine = { s with ppu := p, refused := r } := by
  unfold State.startLine
  dsimp only
  split
  · obtain ⟨r, e⟩ := markRefused_eq .tallSprites { s with ppu := { s.ppu with candidates := [], samples := [] } }
    rw [e]
    obtain ⟨p, e'⟩ := examine_eq 0 { s with ppu := { s.ppu with candidates := [], samples := [] }, refused := r }
    exact ⟨p, r, e'⟩
  · obtain ⟨p, e'⟩ := examine_eq 0 { s with ppu := { s.ppu with candidates := [], samples := [] } }
    exact ⟨p, s.refused, e'⟩

theorem writeLcdc_eq (v : Byte) (s : State) : ∃ p r, s.writeLcdc v = { s with ppu := p, refused := r } := by
  unfold State.writeLcdc
  dsimp only
  repeat' split
  · exact ⟨_, _, rfl⟩
  · exact ⟨_, _, rfl⟩
  · obtain ⟨p, r, e⟩ := startLine_eq { s with ppu := { s.ppu with lcdc := v, ly := 0, lineDot := 0 } }
    exact ⟨p, r, e⟩

/-- What a write to the I/O page can change: its registers and peripherals, and a mark; no register of the core, no RAM, not the
cartridge. -/
theorem writeIo_eq (n : Nat) (v : Byte) (s : State) :
    ∃ q t se j p d k b so r, s.writeIo n v =
      { s with irq := q, timer := t, serial := se, joypad := j, ppu := p, dma := d, key1 := k, svbk := b, sound := so, refused := r } := by
  unfold State.writeIo
  split
  case h_3 =>
    obtain ⟨t, r, e⟩ := writeSc_eq v s
    exact ⟨_, _, t, _, _, _, _, _, _, r, e⟩
  case h_4 =>
    obtain ⟨t, q, e⟩ := writeDiv_eq s
    exact ⟨q, t, _, _, _, _, _, _, _, _, e⟩
  case h_7 =>
    obtain ⟨t, q, e⟩ := writeTac_eq v s
    exact ⟨q, t, _, _, _, _, _, _, _, _, e⟩
  case h_10 =>
    obtain ⟨p, r, e⟩ := writeLcdc_eq v s
    exact ⟨_, _, _, _, p, _, _, _, _, r, e⟩
  case h_23 =>
    obtain ⟨r, e⟩ := markRefused_eq .infrared s
    exact ⟨_, _, _, _, _, _, _, _, _, r, e⟩
  all_goals exact ⟨_, _, _, _, _, _, _, _, _, _, rfl⟩

theorem cartWrite_eq (a : Word) (v : Byte) (s : State) : ∃ c f, s.cartWrite a v = { s with cart := c, fatal := f } := by
  unfold State.cartWrite
  split
  · exact ⟨_, _, rfl⟩
  · exact ⟨_, (State.markFatal _ _).fatal, by
      obtain ⟨f, e⟩ := markFatal_eq (Config.cartWriteFatal s.cart.image s.cart.writes a v)
        { s with cart := { s.cart with writes := s.cart.writes ++ [(a, v)] } }
      rw [e]⟩

/-- What a write through the router can change: everything but the core, its bookkeeping, time and the host's side. -/
theorem routerWrite_eq (a : Word) (v : Byte) (s : State) :
    ∃ q t se j p d k b so r m c f, s.routerWrite a v =
      { s with
        irq := q, timer := t, serial := se, joypad := j, ppu := p, dma := d, key1 := k, svbk := b, sound := so, refused := r
        mem := m, cart := c, fatal := f } := by
  unfold State.routerWrite
  dsimp only
  repeat' split
  case h_1 =>
    obtain ⟨c, f, e⟩ := cartWrite_eq a v s
    exact ⟨_, _, _, _, _, _, _, _, _, _, _, c, f, e⟩
  case h_6 =>
    obtain ⟨q, t, se, j, p, d, k, b, so, r, e⟩ := writeIo_eq (fold a.toNat) v s
    exact ⟨q, t, se, j, p, d, k, b, so, r, _, _, _, e⟩
  all_goals exact ⟨_, _, _, _, _, _, _, _, _, _, _, _, _, rfl⟩

@[simp] theorem routerWrite_cpu (a : Word) (v : Byte) (s : State) : (s.routerWrite a v).cpu = s.cpu := by
  obtain ⟨_, _, _, _, _, _, _, _, _, _, _, _, _, e⟩ := routerWrite_eq a v s; rw [e]

@[simp] theorem routerWrite_sched (a : Word) (v : Byte) (s : State) : (s.routerWrite a v).sched = s.sched := by
  obtain ⟨_, _, _, _, _, _, _, _, _, _, _, _, _, e⟩ := routerWrite_eq a v s; rw [e]

/-- The router's write leaves every byte of RAM but the addressed one. -/
theorem routerWrite_ram_other (a : Word) (v : Byte) (s : State) (h : Memory.wf Config.ramBlank s.mem) (k : Nat)
    (hk : k ≠ s.ramKey (fold a.toNat)) : (s.routerWrite a v).ram k = s.ram k := by
  have set : (s.setRam (s.ramKey (fold a.toNat)) v).ram k = s.ram k := Memory.get_set_other _ _ _ _ h hk
  unfold State.routerWrite
  dsimp only
  repeat' split
  case h_1 =>
    obtain ⟨c, f, e⟩ := cartWrite_eq a v s
    rw [e]; rfl
  case h_6 =>
    obtain ⟨q, t, se, j, p, d, k, b, so, r, e⟩ := writeIo_eq (fold a.toNat) v s
    rw [e]; rfl
  all_goals first | rfl | exact set

/-- The router's write keeps the canonical form of RAM. -/
theorem routerWrite_memWf (a : Word) (v : Byte) (s : State) (h : Memory.wf Config.ramBlank s.mem) :
    Memory.wf Config.ramBlank (s.routerWrite a v).mem := by
  have set := Memory.wf_set s.mem (s.ramKey (fold a.toNat)) v h
  unfold State.routerWrite
  dsimp only
  repeat' split
  case h_1 =>
    obtain ⟨c, f, e⟩ := cartWrite_eq a v s
    rw [e]; exact h
  case h_6 =>
    obtain ⟨q, t, se, j, p, d, k, b, so, r, e⟩ := writeIo_eq (fold a.toNat) v s
    rw [e]; exact h
  all_goals first | exact h | exact set

/-! ### One machine cycle with an access -/

@[simp] theorem afterRead_cpu (a : Word) (s : State) : (s.afterRead a).cpu = s.nextCycle.cpu := by
  unfold State.afterRead
  rw [markFatal_cpu]

@[simp] theorem afterRead_latch (a : Word) (s : State) : (s.afterRead a).latch = s.nextCycle.routerRead a := by
  unfold State.afterRead State.latch
  rw [markFatal_sched]

@[simp] theorem afterRead_mem (a : Word) (s : State) : (s.afterRead a).mem = s.nextCycle.mem := by
  unfold State.afterRead
  rw [markFatal_mem]

@[simp] theorem afterRead_queue (a : Word) (s : State) : (s.afterRead a).sched.queue = s.sched.queue := by
  unfold State.afterRead
  rw [markFatal_sched]
  exact nextCycle_queue s

@[simp] theorem afterWrite_cpu (a : Word) (v : Byte) (s : State) : (s.afterWrite a v).cpu = s.nextCycle.cpu :=
  routerWrite_cpu _ _ _

@[simp] theorem afterWrite_sched (a : Word) (v : Byte) (s : State) : (s.afterWrite a v).sched = s.nextCycle.sched :=
  routerWrite_sched _ _ _

@[simp] theorem afterWrite_queue (a : Word) (v : Byte) (s : State) : (s.afterWrite a v).sched.queue = s.sched.queue := by
  rw [afterWrite_sched]
  exact nextCycle_queue s

theorem nextCycle_mem_wf (s : State) (h : Memory.wf Config.ramBlank s.mem) : Memory.wf Config.ramBlank s.nextCycle.mem := by
  have hd : ∀ t : State, Memory.wf Config.ramBlank t.mem → Memory.wf Config.ramBlank t.dmaStep.mem := by
    intro t ht
    unfold State.dmaStep
    split
    · simp only [markFatal_mem, setRam_mem]
      exact Memory.wf_set _ _ _ ht
    · exact ht
  unfold State.nextCycle State.beginCycle
  refine hd _ ?_
  rw [(ticks_kept _ _).mem]
  exact h

end Sys2Proof.Machine
end

