-- ==== Sys2Proof/Laws/Shape.lean ====
section
/-! SUPPORT. What an instruction can do, said once: every instruction's meaning answers a next state, the one its shape gives. A proof about
all instructions splits the shapes, not the 512 instructions. -/

namespace Sys2Proof.Machine

/-- The shared forms the meanings are written over, with their operands. -/
inductive Shape where
  | copyReg (dst r : Reg8)
  | setReg (r : Reg8) (v : Byte)
  | setPair (q : Pair) (w : Word)
  | loadReg (dst : Reg8)
  | storeReg (r : Reg8)
  | storeImm (n : Byte)
  | loadAcc (a : State → Word)
  | storeAcc (a : State → Word)
  | loadAccHl (d : Word)
  | storeAccHl (d : Word)
  | storeSp (a : Word)
  | loadSpHl
  | pushPair (q : StackPair)
  | popPair (q : StackPair)
  | aluReg (op : AluOp) (r : Reg8)
  | aluMem (op : AluOp)
  | aluImm (op : AluOp) (n : Byte)
  | incReg (r : Reg8)
  | decReg (r : Reg8)
  | incMem
  | decMem
  | decimalAdjust
  | complementAcc
  | setCarry
  | complementCarry
  | addHl (q : Pair)
  | incPair (q : Pair)
  | decPair (q : Pair)
  | addSp (e : Byte)
  | loadHlSp (e : Byte)
  | rotAcc (op : RotOp)
  | rotReg (op : RotOp) (r : Reg8)
  | rotMem (op : RotOp)
  | testBitReg (b : Oct) (r : Reg8)
  | testBitMem (b : Oct)
  | resBitReg (b : Oct) (r : Reg8)
  | resBitMem (b : Oct)
  | setBitReg (b : Oct) (r : Reg8)
  | setBitMem (b : Oct)
  | jump (nn : Word)
  | jumpIf (k : Cond) (nn : Word)
  | jumpHl
  | jumpRelative (e : Byte)
  | jumpRelativeIf (k : Cond) (e : Byte)
  | call (nn : Word)
  | callIf (k : Cond) (nn : Word)
  | returnNow
  | returnIf (k : Cond)
  | returnFromInterrupt
  | restart (y : Oct)
  | nothing
  | enterHalt
  | enterStop
  | disableInterrupts
  | enableInterrupts
  | prefixCb
  | raiseFrozen (op : Byte)

/-- What a shape does. -/
def Shape.run (x : Shape) (s : State) : State :=
  match x with
  | .copyReg dst r => s.copyReg dst r
  | .setReg r v => s.setReg r v
  | .setPair q w => s.setPair q w
  | .loadReg dst => s.loadReg dst
  | .storeReg r => s.storeReg r
  | .storeImm n => s.storeImm n
  | .loadAcc a => s.loadAcc (a s)
  | .storeAcc a => s.storeAcc (a s)
  | .loadAccHl d => s.loadAccHl d
  | .storeAccHl d => s.storeAccHl d
  | .storeSp a => s.storeSp a
  | .loadSpHl => s.loadSpHl
  | .pushPair q => s.pushPair q
  | .popPair q => s.popPair q
  | .aluReg op r => s.aluReg op r
  | .aluMem op => s.aluMem op
  | .aluImm op n => s.aluImm op n
  | .incReg r => s.incReg r
  | .decReg r => s.decReg r
  | .incMem => s.incMem
  | .decMem => s.decMem
  | .decimalAdjust => s.decimalAdjust
  | .complementAcc => s.complementAcc
  | .setCarry => s.setCarry
  | .complementCarry => s.complementCarry
  | .addHl q => s.addHl q
  | .incPair q => s.incPair q
  | .decPair q => s.decPair q
  | .addSp e => s.addSp e
  | .loadHlSp e => s.loadHlSp e
  | .rotAcc op => s.rotAcc op
  | .rotReg op r => s.rotReg op r
  | .rotMem op => s.rotMem op
  | .testBitReg b r => s.testBitReg b r
  | .testBitMem b => s.testBitMem b
  | .resBitReg b r => s.resBitReg b r
  | .resBitMem b => s.resBitMem b
  | .setBitReg b r => s.setBitReg b r
  | .setBitMem b => s.setBitMem b
  | .jump nn => s.jump nn
  | .jumpIf k nn => s.jumpIf k nn
  | .jumpHl => s.setPc s.hl
  | .jumpRelative e => s.jumpRelative e
  | .jumpRelativeIf k e => s.jumpRelativeIf k e
  | .call nn => s.call nn
  | .callIf k nn => s.callIf k nn
  | .returnNow => s.returnNow
  | .returnIf k => s.returnIf k
  | .returnFromInterrupt => s.returnFromInterrupt
  | .restart y => s.restart y
  | .nothing => s
  | .enterHalt => s.enterHalt
  | .enterStop => s.enterStop
  | .disableInterrupts => s.disableInterrupts
  | .enableInterrupts => s.enableInterrupts
  | .prefixCb => s.prefixCb
  | .raiseFrozen op => s.raiseFrozen op

/-- The shape of an instruction. -/
def shape (i : Instr) : Shape :=
  match i with
  | .nop => .nothing
  | .ldBcNn nn => .setPair .bc nn
  | .ldMemBcA => .storeAcc State.bc
  | .incBc => .incPair .bc
  | .incB => .incReg .b
  | .decB => .decReg .b
  | .ldBN n => .setReg .b n
  | .rlca => .rotAcc .rlc
  | .ldMemNnSp nn => .storeSp nn
  | .addHlBc => .addHl .bc
  | .ldAMemBc => .loadAcc State.bc
  | .decBc => .decPair .bc
  | .incC => .incReg .c
  | .decC => .decReg .c
  | .ldCN n => .setReg .c n
  | .rrca => .rotAcc .rrc
  | .stop => .enterStop
  | .ldDeNn nn => .setPair .de nn
  | .ldMemDeA => .storeAcc State.de
  | .incDe => .incPair .de
  | .incD => .incReg .d
  | .decD => .decReg .d
  | .ldDN n => .setReg .d n
  | .rla => .rotAcc .rl
  | .jrE e => .jumpRelative e
  | .addHlDe => .addHl .de
  | .ldAMemDe => .loadAcc State.de
  | .decDe => .decPair .de
  | .incE => .incReg .e
  | .decE => .decReg .e
  | .ldEN n => .setReg .e n
  | .rra => .rotAcc .rr
  | .jrNzE e => .jumpRelativeIf .nz e
  | .ldHlNn nn => .setPair .hl nn
  | .ldMemHlIncA => .storeAccHl 1
  | .incHl => .incPair .hl
  | .incH => .incReg .h
  | .decH => .decReg .h
  | .ldHN n => .setReg .h n
  | .daa => .decimalAdjust
  | .jrZE e => .jumpRelativeIf .z e
  | .addHlHl => .addHl .hl
  | .ldAMemHlInc => .loadAccHl 1
  | .decHl => .decPair .hl
  | .incL => .incReg .l
  | .decL => .decReg .l
  | .ldLN n => .setReg .l n
  | .cpl => .complementAcc
  | .jrNcE e => .jumpRelativeIf .nc e
  | .ldSpNn nn => .setPair .sp nn
  | .ldMemHlDecA => .storeAccHl (-1)
  | .incSp => .incPair .sp
  | .incMemHl => .incMem
  | .decMemHl => .decMem
  | .ldMemHlN n => .storeImm n
  | .scf => .setCarry
  | .jrCE e => .jumpRelativeIf .c e
  | .addHlSp => .addHl .sp
  | .ldAMemHlDec => .loadAccHl (-1)
  | .decSp => .decPair .sp
  | .incA => .incReg .a
  | .decA => .decReg .a
  | .ldAN n => .setReg .a n
  | .ccf => .complementCarry
  | .ldBB => .copyReg .b .b
  | .ldBC => .copyReg .b .c
  | .ldBD => .copyReg .b .d
  | .ldBE => .copyReg .b .e
  | .ldBH => .copyReg .b .h
  | .ldBL => .copyReg .b .l
  | .ldBMemHl => .loadReg .b
  | .ldBA => .copyReg .b .a
  | .ldCB => .copyReg .c .b
  | .ldCC => .copyReg .c .c
  | .ldCD => .copyReg .c .d
  | .ldCE => .copyReg .c .e
  | .ldCH => .copyReg .c .h
  | .ldCL => .copyReg .c .l
  | .ldCMemHl => .loadReg .c
  | .ldCA => .copyReg .c .a
  | .ldDB => .copyReg .d .b
  | .ldDC => .copyReg .d .c
  | .ldDD => .copyReg .d .d
  | .ldDE => .copyReg .d .e
  | .ldDH => .copyReg .d .h
  | .ldDL => .copyReg .d .l
  | .ldDMemHl => .loadReg .d
  | .ldDA => .copyReg .d .a
  | .ldEB => .copyReg .e .b
  | .ldEC => .copyReg .e .c
  | .ldED => .copyReg .e .d
  | .ldEE => .copyReg .e .e
  | .ldEH => .copyReg .e .h
  | .ldEL => .copyReg .e .l
  | .ldEMemHl => .loadReg .e
  | .ldEA => .copyReg .e .a
  | .ldHB => .copyReg .h .b
  | .ldHC => .copyReg .h .c
  | .ldHD => .copyReg .h .d
  | .ldHE => .copyReg .h .e
  | .ldHH => .copyReg .h .h
  | .ldHL => .copyReg .h .l
  | .ldHMemHl => .loadReg .h
  | .ldHA => .copyReg .h .a
  | .ldLB => .copyReg .l .b
  | .ldLC => .copyReg .l .c
  | .ldLD => .copyReg .l .d
  | .ldLE => .copyReg .l .e
  | .ldLH => .copyReg .l .h
  | .ldLL => .copyReg .l .l
  | .ldLMemHl => .loadReg .l
  | .ldLA => .copyReg .l .a
  | .ldMemHlB => .storeReg .b
  | .ldMemHlC => .storeReg .c
  | .ldMemHlD => .storeReg .d
  | .ldMemHlE => .storeReg .e
  | .ldMemHlH => .storeReg .h
  | .ldMemHlL => .storeReg .l
  | .halt => .enterHalt
  | .ldMemHlA => .storeReg .a
  | .ldAB => .copyReg .a .b
  | .ldAC => .copyReg .a .c
  | .ldAD => .copyReg .a .d
  | .ldAE => .copyReg .a .e
  | .ldAH => .copyReg .a .h
  | .ldAL => .copyReg .a .l
  | .ldAMemHl => .loadReg .a
  | .ldAA => .copyReg .a .a
  | .addAB => .aluReg .add .b
  | .addAC => .aluReg .add .c
  | .addAD => .aluReg .add .d
  | .addAE => .aluReg .add .e
  | .addAH => .aluReg .add .h
  | .addAL => .aluReg .add .l
  | .addAMemHl => .aluMem .add
  | .addAA => .aluReg .add .a
  | .adcAB => .aluReg .adc .b
  | .adcAC => .aluReg .adc .c
  | .adcAD => .aluReg .adc .d
  | .adcAE => .aluReg .adc .e
  | .adcAH => .aluReg .adc .h
  | .adcAL => .aluReg .adc .l
  | .adcAMemHl => .aluMem .adc
  | .adcAA => .aluReg .adc .a
  | .subB => .aluReg .sub .b
  | .subC => .aluReg .sub .c
  | .subD => .aluReg .sub .d
  | .subE => .aluReg .sub .e
  | .subH => .aluReg .sub .h
  | .subL => .aluReg .sub .l
  | .subMemHl => .aluMem .sub
  | .subA => .aluReg .sub .a
  | .sbcAB => .aluReg .sbc .b
  | .sbcAC => .aluReg .sbc .c
  | .sbcAD => .aluReg .sbc .d
  | .sbcAE => .aluReg .sbc .e
  | .sbcAH => .aluReg .sbc .h
  | .sbcAL => .aluReg .sbc .l
  | .sbcAMemHl => .aluMem .sbc
  | .sbcAA => .aluReg .sbc .a
  | .andB => .aluReg .and .b
  | .andC => .aluReg .and .c
  | .andD => .aluReg .and .d
  | .andE => .aluReg .and .e
  | .andH => .aluReg .and .h
  | .andL => .aluReg .and .l
  | .andMemHl => .aluMem .and
  | .andA => .aluReg .and .a
  | .xorB => .aluReg .xor .b
  | .xorC => .aluReg .xor .c
  | .xorD => .aluReg .xor .d
  | .xorE => .aluReg .xor .e
  | .xorH => .aluReg .xor .h
  | .xorL => .aluReg .xor .l
  | .xorMemHl => .aluMem .xor
  | .xorA => .aluReg .xor .a
  | .orB => .aluReg .or .b
  | .orC => .aluReg .or .c
  | .orD => .aluReg .or .d
  | .orE => .aluReg .or .e
  | .orH => .aluReg .or .h
  | .orL => .aluReg .or .l
  | .orMemHl => .aluMem .or
  | .orA => .aluReg .or .a
  | .cpB => .aluReg .cp .b
  | .cpC => .aluReg .cp .c
  | .cpD => .aluReg .cp .d
  | .cpE => .aluReg .cp .e
  | .cpH => .aluReg .cp .h
  | .cpL => .aluReg .cp .l
  | .cpMemHl => .aluMem .cp
  | .cpA => .aluReg .cp .a
  | .retNz => .returnIf .nz
  | .popBc => .popPair .bc
  | .jpNzNn nn => .jumpIf .nz nn
  | .jpNn nn => .jump nn
  | .callNzNn nn => .callIf .nz nn
  | .pushBc => .pushPair .bc
  | .addAN n => .aluImm .add n
  | .rst00 => .restart .y0
  | .retZ => .returnIf .z
  | .ret => .returnNow
  | .jpZNn nn => .jumpIf .z nn
  | .prefixCb => .prefixCb
  | .callZNn nn => .callIf .z nn
  | .callNn nn => .call nn
  | .adcAN n => .aluImm .adc n
  | .rst08 => .restart .y1
  | .retNc => .returnIf .nc
  | .popDe => .popPair .de
  | .jpNcNn nn => .jumpIf .nc nn
  | .illegalD3 => .raiseFrozen 0xD3
  | .callNcNn nn => .callIf .nc nn
  | .pushDe => .pushPair .de
  | .subN n => .aluImm .sub n
  | .rst10 => .restart .y2
  | .retC => .returnIf .c
  | .reti => .returnFromInterrupt
  | .jpCNn nn => .jumpIf .c nn
  | .illegalDB => .raiseFrozen 0xDB
  | .callCNn nn => .callIf .c nn
  | .illegalDD => .raiseFrozen 0xDD
  | .sbcAN n => .aluImm .sbc n
  | .rst18 => .restart .y3
  | .ldhMemNA n => .storeAcc (fun _ => highPage n)
  | .popHl => .popPair .hl
  | .ldhMemCA => .storeAcc (fun s => highPage s.cpu.c)
  | .illegalE3 => .raiseFrozen 0xE3
  | .illegalE4 => .raiseFrozen 0xE4
  | .pushHl => .pushPair .hl
  | .andN n => .aluImm .and n
  | .rst20 => .restart .y4
  | .addSpE e => .addSp e
  | .jpHl => .jumpHl
  | .ldMemNnA nn => .storeAcc (fun _ => nn)
  | .illegalEB => .raiseFrozen 0xEB
  | .illegalEC => .raiseFrozen 0xEC
  | .illegalED => .raiseFrozen 0xED
  | .xorN n => .aluImm .xor n
  | .rst28 => .restart .y5
  | .ldhAMemN n => .loadAcc (fun _ => highPage n)
  | .popAf => .popPair .af
  | .ldhAMemC => .loadAcc (fun s => highPage s.cpu.c)
  | .di => .disableInterrupts
  | .illegalF4 => .raiseFrozen 0xF4
  | .pushAf => .pushPair .af
  | .orN n => .aluImm .or n
  | .rst30 => .restart .y6
  | .ldHlSpE e => .loadHlSp e
  | .ldSpHl => .loadSpHl
  | .ldAMemNn nn => .loadAcc (fun _ => nn)
  | .ei => .enableInterrupts
  | .illegalFC => .raiseFrozen 0xFC
  | .illegalFD => .raiseFrozen 0xFD
  | .cpN n => .aluImm .cp n
  | .rst38 => .restart .y7
  | .rlcB => .rotReg .rlc .b
  | .rlcC => .rotReg .rlc .c
  | .rlcD => .rotReg .rlc .d
  | .rlcE => .rotReg .rlc .e
  | .rlcH => .rotReg .rlc .h
  | .rlcL => .rotReg .rlc .l
  | .rlcMemHl => .rotMem .rlc
  | .rlcA => .rotReg .rlc .a
  | .rrcB => .rotReg .rrc .b
  | .rrcC => .rotReg .rrc .c
  | .rrcD => .rotReg .rrc .d
  | .rrcE => .rotReg .rrc .e
  | .rrcH => .rotReg .rrc .h
  | .rrcL => .rotReg .rrc .l
  | .rrcMemHl => .rotMem .rrc
  | .rrcA => .rotReg .rrc .a
  | .rlB => .rotReg .rl .b
  | .rlC => .rotReg .rl .c
  | .rlD => .rotReg .rl .d
  | .rlE => .rotReg .rl .e
  | .rlH => .rotReg .rl .h
  | .rlL => .rotReg .rl .l
  | .rlMemHl => .rotMem .rl
  | .rlA => .rotReg .rl .a
  | .rrB => .rotReg .rr .b
  | .rrC => .rotReg .rr .c
  | .rrD => .rotReg .rr .d
  | .rrE => .rotReg .rr .e
  | .rrH => .rotReg .rr .h
  | .rrL => .rotReg .rr .l
  | .rrMemHl => .rotMem .rr
  | .rrA => .rotReg .rr .a
  | .slaB => .rotReg .sla .b
  | .slaC => .rotReg .sla .c
  | .slaD => .rotReg .sla .d
  | .slaE => .rotReg .sla .e
  | .slaH => .rotReg .sla .h
  | .slaL => .rotReg .sla .l
  | .slaMemHl => .rotMem .sla
  | .slaA => .rotReg .sla .a
  | .sraB => .rotReg .sra .b
  | .sraC => .rotReg .sra .c
  | .sraD => .rotReg .sra .d
  | .sraE => .rotReg .sra .e
  | .sraH => .rotReg .sra .h
  | .sraL => .rotReg .sra .l
  | .sraMemHl => .rotMem .sra
  | .sraA => .rotReg .sra .a
  | .swapB => .rotReg .swap .b
  | .swapC => .rotReg .swap .c
  | .swapD => .rotReg .swap .d
  | .swapE => .rotReg .swap .e
  | .swapH => .rotReg .swap .h
  | .swapL => .rotReg .swap .l
  | .swapMemHl => .rotMem .swap
  | .swapA => .rotReg .swap .a
  | .srlB => .rotReg .srl .b
  | .srlC => .rotReg .srl .c
  | .srlD => .rotReg .srl .d
  | .srlE => .rotReg .srl .e
  | .srlH => .rotReg .srl .h
  | .srlL => .rotReg .srl .l
  | .srlMemHl => .rotMem .srl
  | .srlA => .rotReg .srl .a
  | .bit0B => .testBitReg .y0 .b
  | .bit0C => .testBitReg .y0 .c
  | .bit0D => .testBitReg .y0 .d
  | .bit0E => .testBitReg .y0 .e
  | .bit0H => .testBitReg .y0 .h
  | .bit0L => .testBitReg .y0 .l
  | .bit0MemHl => .testBitMem .y0
  | .bit0A => .testBitReg .y0 .a
  | .bit1B => .testBitReg .y1 .b
  | .bit1C => .testBitReg .y1 .c
  | .bit1D => .testBitReg .y1 .d
  | .bit1E => .testBitReg .y1 .e
  | .bit1H => .testBitReg .y1 .h
  | .bit1L => .testBitReg .y1 .l
  | .bit1MemHl => .testBitMem .y1
  | .bit1A => .testBitReg .y1 .a
  | .bit2B => .testBitReg .y2 .b
  | .bit2C => .testBitReg .y2 .c
  | .bit2D => .testBitReg .y2 .d
  | .bit2E => .testBitReg .y2 .e
  | .bit2H => .testBitReg .y2 .h
  | .bit2L => .testBitReg .y2 .l
  | .bit2MemHl => .testBitMem .y2
  | .bit2A => .testBitReg .y2 .a
  | .bit3B => .testBitReg .y3 .b
  | .bit3C => .testBitReg .y3 .c
  | .bit3D => .testBitReg .y3 .d
  | .bit3E => .testBitReg .y3 .e
  | .bit3H => .testBitReg .y3 .h
  | .bit3L => .testBitReg .y3 .l
  | .bit3MemHl => .testBitMem .y3
  | .bit3A => .testBitReg .y3 .a
  | .bit4B => .testBitReg .y4 .b
  | .bit4C => .testBitReg .y4 .c
  | .bit4D => .testBitReg .y4 .d
  | .bit4E => .testBitReg .y4 .e
  | .bit4H => .testBitReg .y4 .h
  | .bit4L => .testBitReg .y4 .l
  | .bit4MemHl => .testBitMem .y4
  | .bit4A => .testBitReg .y4 .a
  | .bit5B => .testBitReg .y5 .b
  | .bit5C => .testBitReg .y5 .c
  | .bit5D => .testBitReg .y5 .d
  | .bit5E => .testBitReg .y5 .e
  | .bit5H => .testBitReg .y5 .h
  | .bit5L => .testBitReg .y5 .l
  | .bit5MemHl => .testBitMem .y5
  | .bit5A => .testBitReg .y5 .a
  | .bit6B => .testBitReg .y6 .b
  | .bit6C => .testBitReg .y6 .c
  | .bit6D => .testBitReg .y6 .d
  | .bit6E => .testBitReg .y6 .e
  | .bit6H => .testBitReg .y6 .h
  | .bit6L => .testBitReg .y6 .l
  | .bit6MemHl => .testBitMem .y6
  | .bit6A => .testBitReg .y6 .a
  | .bit7B => .testBitReg .y7 .b
  | .bit7C => .testBitReg .y7 .c
  | .bit7D => .testBitReg .y7 .d
  | .bit7E => .testBitReg .y7 .e
  | .bit7H => .testBitReg .y7 .h
  | .bit7L => .testBitReg .y7 .l
  | .bit7MemHl => .testBitMem .y7
  | .bit7A => .testBitReg .y7 .a
  | .res0B => .resBitReg .y0 .b
  | .res0C => .resBitReg .y0 .c
  | .res0D => .resBitReg .y0 .d
  | .res0E => .resBitReg .y0 .e
  | .res0H => .resBitReg .y0 .h
  | .res0L => .resBitReg .y0 .l
  | .res0MemHl => .resBitMem .y0
  | .res0A => .resBitReg .y0 .a
  | .res1B => .resBitReg .y1 .b
  | .res1C => .resBitReg .y1 .c
  | .res1D => .resBitReg .y1 .d
  | .res1E => .resBitReg .y1 .e
  | .res1H => .resBitReg .y1 .h
  | .res1L => .resBitReg .y1 .l
  | .res1MemHl => .resBitMem .y1
  | .res1A => .resBitReg .y1 .a
  | .res2B => .resBitReg .y2 .b
  | .res2C => .resBitReg .y2 .c
  | .res2D => .resBitReg .y2 .d
  | .res2E => .resBitReg .y2 .e
  | .res2H => .resBitReg .y2 .h
  | .res2L => .resBitReg .y2 .l
  | .res2MemHl => .resBitMem .y2
  | .res2A => .resBitReg .y2 .a
  | .res3B => .resBitReg .y3 .b
  | .res3C => .resBitReg .y3 .c
  | .res3D => .resBitReg .y3 .d
  | .res3E => .resBitReg .y3 .e
  | .res3H => .resBitReg .y3 .h
  | .res3L => .resBitReg .y3 .l
  | .res3MemHl => .resBitMem .y3
  | .res3A => .resBitReg .y3 .a
  | .res4B => .resBitReg .y4 .b
  | .res4C => .resBitReg .y4 .c
  | .res4D => .resBitReg .y4 .d
  | .res4E => .resBitReg .y4 .e
  | .res4H => .resBitReg .y4 .h
  | .res4L => .resBitReg .y4 .l
  | .res4MemHl => .resBitMem .y4
  | .res4A => .resBitReg .y4 .a
  | .res5B => .resBitReg .y5 .b
  | .res5C => .resBitReg .y5 .c
  | .res5D => .resBitReg .y5 .d
  | .res5E => .resBitReg .y5 .e
  | .res5H => .resBitReg .y5 .h
  | .res5L => .resBitReg .y5 .l
  | .res5MemHl => .resBitMem .y5
  | .res5A => .resBitReg .y5 .a
  | .res6B => .resBitReg .y6 .b
  | .res6C => .resBitReg .y6 .c
  | .res6D => .resBitReg .y6 .d
  | .res6E => .resBitReg .y6 .e
  | .res6H => .resBitReg .y6 .h
  | .res6L => .resBitReg .y6 .l
  | .res6MemHl => .resBitMem .y6
  | .res6A => .resBitReg .y6 .a
  | .res7B => .resBitReg .y7 .b
  | .res7C => .resBitReg .y7 .c
  | .res7D => .resBitReg .y7 .d
  | .res7E => .resBitReg .y7 .e
  | .res7H => .resBitReg .y7 .h
  | .res7L => .resBitReg .y7 .l
  | .res7MemHl => .resBitMem .y7
  | .res7A => .resBitReg .y7 .a
  | .set0B => .setBitReg .y0 .b
  | .set0C => .setBitReg .y0 .c
  | .set0D => .setBitReg .y0 .d
  | .set0E => .setBitReg .y0 .e
  | .set0H => .setBitReg .y0 .h
  | .set0L => .setBitReg .y0 .l
  | .set0MemHl => .setBitMem .y0
  | .set0A => .setBitReg .y0 .a
  | .set1B => .setBitReg .y1 .b
  | .set1C => .setBitReg .y1 .c
  | .set1D => .setBitReg .y1 .d
  | .set1E => .setBitReg .y1 .e
  | .set1H => .setBitReg .y1 .h
  | .set1L => .setBitReg .y1 .l
  | .set1MemHl => .setBitMem .y1
  | .set1A => .setBitReg .y1 .a
  | .set2B => .setBitReg .y2 .b
  | .set2C => .setBitReg .y2 .c
  | .set2D => .setBitReg .y2 .d
  | .set2E => .setBitReg .y2 .e
  | .set2H => .setBitReg .y2 .h
  | .set2L => .setBitReg .y2 .l
  | .set2MemHl => .setBitMem .y2
  | .set2A => .setBitReg .y2 .a
  | .set3B => .setBitReg .y3 .b
  | .set3C => .setBitReg .y3 .c
  | .set3D => .setBitReg .y3 .d
  | .set3E => .setBitReg .y3 .e
  | .set3H => .setBitReg .y3 .h
  | .set3L => .setBitReg .y3 .l
  | .set3MemHl => .setBitMem .y3
  | .set3A => .setBitReg .y3 .a
  | .set4B => .setBitReg .y4 .b
  | .set4C => .setBitReg .y4 .c
  | .set4D => .setBitReg .y4 .d
  | .set4E => .setBitReg .y4 .e
  | .set4H => .setBitReg .y4 .h
  | .set4L => .setBitReg .y4 .l
  | .set4MemHl => .setBitMem .y4
  | .set4A => .setBitReg .y4 .a
  | .set5B => .setBitReg .y5 .b
  | .set5C => .setBitReg .y5 .c
  | .set5D => .setBitReg .y5 .d
  | .set5E => .setBitReg .y5 .e
  | .set5H => .setBitReg .y5 .h
  | .set5L => .setBitReg .y5 .l
  | .set5MemHl => .setBitMem .y5
  | .set5A => .setBitReg .y5 .a
  | .set6B => .setBitReg .y6 .b
  | .set6C => .setBitReg .y6 .c
  | .set6D => .setBitReg .y6 .d
  | .set6E => .setBitReg .y6 .e
  | .set6H => .setBitReg .y6 .h
  | .set6L => .setBitReg .y6 .l
  | .set6MemHl => .setBitMem .y6
  | .set6A => .setBitReg .y6 .a
  | .set7B => .setBitReg .y7 .b
  | .set7C => .setBitReg .y7 .c
  | .set7D => .setBitReg .y7 .d
  | .set7E => .setBitReg .y7 .e
  | .set7H => .setBitReg .y7 .h
  | .set7L => .setBitReg .y7 .l
  | .set7MemHl => .setBitMem .y7
  | .set7A => .setBitReg .y7 .a

/-- Every instruction answers a next state: what its shape does. -/
theorem exec_eq_shape (i : Instr) (s : State) : exec i s = .next ((shape i).run s) := by
  cases i <;> rfl

/-- If an instruction answers a state, it is what its shape does. -/
theorem exec_next {i : Instr} {s t : State} (h : exec i s = .next t) : t = (shape i).run s := by
  rw [exec_eq_shape] at h
  exact (Host.Outcome.next.inj h).symm

end Sys2Proof.Machine
end

