-- ==== Sys2Proof/Laws/Core.lean ====
section
/-! SUPPORT. What the core's shared operations can do: an access keeps every register, a push and a pop move SP by two, the prefixed rows run
the operation of their second byte, a step that goes on runs one boundary. -/

namespace Sys2Proof.Machine

/-! ### Register writes -/

@[simp] theorem setReg_f (r : Reg8) (v : Byte) (p : Cpu) : (p.setReg r v).f = p.f := by cases r <;> rfl

@[simp] theorem setReg_ime (r : Reg8) (v : Byte) (p : Cpu) : (p.setReg r v).ime = p.ime := by cases r <;> rfl

@[simp] theorem setReg_eiDelay (r : Reg8) (v : Byte) (p : Cpu) : (p.setReg r v).eiDelay = p.eiDelay := by cases r <;> rfl

@[simp] theorem setPair_f (q : Pair) (w : Word) (p : Cpu) : (p.setPair q w).f = p.f := by cases q <;> rfl

@[simp] theorem setPair_ime (q : Pair) (w : Word) (p : Cpu) : (p.setPair q w).ime = p.ime := by cases q <;> rfl

@[simp] theorem setPair_eiDelay (q : Pair) (w : Word) (p : Cpu) : (p.setPair q w).eiDelay = p.eiDelay := by cases q <;> rfl

@[simp] theorem setStackPair_ime (q : StackPair) (w : Word) (p : Cpu) : (p.setStackPair q w).ime = p.ime := by cases q <;> rfl

@[simp] theorem setStackPair_eiDelay (q : StackPair) (w : Word) (p : Cpu) : (p.setStackPair q w).eiDelay = p.eiDelay := by
  cases q <;> rfl

@[simp] theorem writeDiv_cpu (s : State) : s.writeDiv.cpu = s.cpu := by
  obtain ⟨t, q, e⟩ := writeDiv_eq s; rw [e]

/-! ### Accesses keep the registers -/

@[simp] theorem perform_cpu (o : BusOp) (s : State) : (s.perform o).cpu = s.cpu := by
  unfold State.perform
  split <;> simp

@[simp] theorem performAll_cpu (os : List BusOp) (s : State) : (performAll os s).cpu = s.cpu := by
  induction os generalizing s with
  | nil => rfl
  | cons o os ih => rw [performAll, ih, perform_cpu]

@[simp] theorem service_cpu (s : State) : s.service.cpu = s.cpu := by
  unfold State.service
  rw [performAll_cpu]

/-- A read at the next offset keeps the core but for `stopped`. -/
theorem readNext_cpu (a : Word) (s : State) :
    (s.readNext a).cpu = { s.cpu with stopped := (s.readNext a).cpu.stopped } := by
  unfold State.readNext
  rw [service_cpu]
  exact nextCycle_cpu (s.schedule 1 a .read)

/-- A write at the next offset keeps the core but for `stopped`. -/
theorem writeNext_cpu (a : Word) (v : Byte) (s : State) :
    (s.writeNext a v).cpu = { s.cpu with stopped := (s.writeNext a v).cpu.stopped } := by
  unfold State.writeNext
  rw [service_cpu]
  exact nextCycle_cpu (s.schedule 1 a (.write v))

@[simp] theorem readNext_f (a : Word) (s : State) : (s.readNext a).cpu.f = s.cpu.f := by rw [readNext_cpu a s]

@[simp] theorem readNext_ime (a : Word) (s : State) : (s.readNext a).cpu.ime = s.cpu.ime := by rw [readNext_cpu a s]

@[simp] theorem readNext_eiDelay (a : Word) (s : State) : (s.readNext a).cpu.eiDelay = s.cpu.eiDelay := by
  rw [readNext_cpu a s]

@[simp] theorem writeNext_f (a : Word) (v : Byte) (s : State) : (s.writeNext a v).cpu.f = s.cpu.f := by
  rw [writeNext_cpu a v s]

@[simp] theorem writeNext_ime (a : Word) (v : Byte) (s : State) : (s.writeNext a v).cpu.ime = s.cpu.ime := by
  rw [writeNext_cpu a v s]

@[simp] theorem writeNext_eiDelay (a : Word) (v : Byte) (s : State) : (s.writeNext a v).cpu.eiDelay = s.cpu.eiDelay := by
  rw [writeNext_cpu a v s]

@[simp] theorem nextCycle_f (s : State) : s.nextCycle.cpu.f = s.cpu.f := by rw [nextCycle_cpu s]

@[simp] theorem nextCycle_ime (s : State) : s.nextCycle.cpu.ime = s.cpu.ime := by rw [nextCycle_cpu s]

@[simp] theorem nextCycle_eiDelay (s : State) : s.nextCycle.cpu.eiDelay = s.cpu.eiDelay := by rw [nextCycle_cpu s]

/-! ### The stack -/

/-- A push keeps every register but SP. -/
theorem afterPush_cpu (w : Word) (s : State) (hs : s.cpu.stopped = false) :
    (s.afterPush w).cpu = { s.cpu with sp := s.cpu.sp - 2 } := by
  have e : ((s.setSp (s.cpu.sp - 1)).afterWrite (s.cpu.sp - 1) (hi w)).cpu = { s.cpu with sp := s.cpu.sp - 1 } := by
    rw [afterWrite_cpu, nextCycle_awake _ (by simpa using hs), setSp_cpu]
  unfold State.afterPush
  rw [afterWrite_cpu, nextCycle_awake, setSp_cpu, e]
  rw [setSp_cpu, e]
  exact hs

/-- A pop keeps every register but SP. -/
theorem afterPop_cpu (s : State) (hs : s.cpu.stopped = false) : s.afterPop.cpu = { s.cpu with sp := s.cpu.sp + 2 } := by
  have e : (s.afterRead s.cpu.sp).cpu = s.cpu := by rw [afterRead_cpu, nextCycle_awake _ hs]
  unfold State.afterPop
  rw [setSp_cpu, afterRead_cpu, nextCycle_awake, setSp_cpu, e]
  rw [setSp_cpu, e]
  exact hs

/-- `pushWord` with nothing else scheduled is the two machine cycles of `afterPush`. -/
theorem pushWord_eq (w : Word) (s : State) (h : s.sched.queue = []) (hs : s.cpu.stopped = false) :
    s.pushWord w = s.afterPush w := by
  have hsp : s.cpu.sp - 1 - 1 = s.cpu.sp - 2 := by bv_omega
  have e1 : (s.setSp (s.cpu.sp - 1)).writeNext (s.cpu.sp - 1) (hi w) =
      (s.setSp (s.cpu.sp - 1)).afterWrite (s.cpu.sp - 1) (hi w) := writeNext_eq _ _ _ h
  have e2 : ((s.setSp (s.cpu.sp - 1)).afterWrite (s.cpu.sp - 1) (hi w)).cpu.sp = s.cpu.sp - 1 := by
    rw [afterWrite_cpu, nextCycle_awake _ (by simpa using hs), setSp_cpu]
  unfold State.pushWord State.afterPush
  dsimp only
  simp only [setSp_cpu]
  rw [e1, e2, hsp]
  exact writeNext_eq _ _ _ (by rw [setSp_sched, afterWrite_queue]; exact h)

/-- `popWord` with nothing else scheduled is the two machine cycles of `afterPop` and the word they read. -/
theorem popWord_eq (s : State) (h : s.sched.queue = []) (hs : s.cpu.stopped = false) : s.popWord = (s.popped, s.afterPop) := by
  have hsp : s.cpu.sp + 1 + 1 = s.cpu.sp + 2 := by bv_omega
  have e : (s.afterRead s.cpu.sp).cpu = s.cpu := by rw [afterRead_cpu, nextCycle_awake _ hs]
  have e1 : s.readNext s.cpu.sp = s.afterRead s.cpu.sp := readNext_eq _ _ h
  have e2 : ((s.afterRead s.cpu.sp).setSp (s.cpu.sp + 1)).readNext (s.cpu.sp + 1) =
      ((s.afterRead s.cpu.sp).setSp (s.cpu.sp + 1)).afterRead (s.cpu.sp + 1) := readNext_eq _ _ (by simpa using h)
  have e3 : (((s.afterRead s.cpu.sp).setSp (s.cpu.sp + 1)).afterRead (s.cpu.sp + 1)).cpu.sp = s.cpu.sp + 1 := by
    rw [afterRead_cpu, nextCycle_awake]
    · rfl
    · rw [setSp_cpu, e]
      exact hs
  unfold State.popWord State.afterPop State.popped
  dsimp only
  rw [e1, e]
  simp only [setSp_cpu]
  rw [e2, e3, hsp]
  simp

/-! ### The prefixed rows -/

/-- A fact of every byte. -/
theorem forall_byte (P : Byte → Prop) (h : ∀ n : Fin 256, P (BitVec.ofNat 8 n)) (b : Byte) : P b := by
  have := h ⟨b.toNat, b.isLt⟩
  simpa using this

/-- Each second byte selects an instruction whose meaning is the operation of that byte's fields. -/
theorem prefixedInstr_exec (op2 : Byte) :
    ∃ j, prefixedInstr op2 = some j ∧ ∀ s, exec j s = .next (s.prefixedOp op2) := by
  revert op2
  apply forall_byte
  intro n
  fin_cases n <;> exact ⟨_, rfl, fun s => rfl⟩

/-! ### The boundary and the step -/

@[simp] theorem mapCpu_pending (g : Cpu → Cpu) (s : State) : (s.mapCpu g).pending = s.pending := rfl

/-- No line is found only where none is pending. -/
theorem lowestLine_none (p : BitVec 5) (h : lowestLine p = none) : p = 0 := by
  unfold lowestLine at h
  repeat' split at h
  all_goals try cases h
  apply BitVec.eq_of_getLsbD_eq
  intro i hi
  have : i = 0 ∨ i = 1 ∨ i = 2 ∨ i = 3 ∨ i = 4 := by omega
  rcases this with rfl | rfl | rfl | rfl | rfl <;> simp_all

/-- The set bit with no set bit below it is the line found. -/
theorem lowestLine_some (p : BitVec 5) (k : Line) (h : p.getLsbD k.index = true) (hj : ∀ j < k.index, p.getLsbD j = false) :
    lowestLine p = some k := by
  have h0 := hj 0
  have h1 := hj 1
  have h2 := hj 2
  have h3 := hj 3
  unfold lowestLine
  cases k <;> simp_all [Line.index]

/-- The EI delay of a boundary, field by field. -/
theorem eiTick_eq (p : Cpu) :
    p.eiTick =
      { p with
        eiDelay := if p.eiDelay = 0 then 0 else p.eiDelay - 1
        ime := if p.eiDelay = 1 then true else p.ime } := by
  unfold Cpu.eiTick
  split
  · rename_i h
    rw [if_neg (by rw [h]; decide)]
    cases p; simp_all
  · rename_i h
    by_cases h1 : p.eiDelay = 1
    · simp [h1]
    · cases p; simp_all

theorem conclude_next {s t : State} (h : conclude s = .next t) : t = s := by
  unfold conclude at h
  split at h
  · cases h
  · split at h
    · cases h
    · cases h; rfl

/-- A step that goes on: the machine cycle begins, its boundary runs, its last machine cycle ends. -/
theorem step_next {s t : State} (h : step s = .next t) : ∃ u, runBoundary s.beginCycle = .next u ∧ t = u.endCycle := by
  unfold step at h
  split at h
  · rename_i t' ht
    have := conclude_next ht
    subst this
    unfold finish at h
    split at h
    · rename_i u hu
      exact ⟨u, hu, conclude_next h⟩
    · cases h
    · cases h
  · cases h
  · cases h

/-! ### The owners of an address -/

theorem fold_low {n : Nat} (h : n < 0xE000) : fold n = n := by unfold fold; rw [if_neg (by omega)]

theorem fold_high {n : Nat} (h : 0xFE00 ≤ n) : fold n = n := by unfold fold; rw [if_neg (by omega)]

theorem fold_mirror {n : Nat} (h1 : 0xE000 ≤ n) (h2 : n < 0xFE00) : fold n = n - 0x2000 := by
  unfold fold; rw [if_pos ⟨h1, h2⟩]

theorem owner_videoRam {n : Nat} (h1 : 0x8000 ≤ n) (h2 : n < 0xA000) : owner n = .videoRam := by
  unfold owner; rw [if_neg (by omega), if_pos (by omega)]

theorem owner_workRam {n : Nat} (h1 : 0xC000 ≤ n) (h2 : n < 0xFE00) : owner n = .workRam := by
  unfold owner; rw [if_neg (by omega), if_neg (by omega), if_neg (by omega), if_pos (by omega)]

theorem owner_oam {n : Nat} (h1 : 0xFE00 ≤ n) (h2 : n < 0xFEA0) : owner n = .oam := by
  unfold owner; rw [if_neg (by omega), if_neg (by omega), if_neg (by omega), if_neg (by omega), if_pos (by omega)]

theorem owner_unusable {n : Nat} (h1 : 0xFEA0 ≤ n) (h2 : n < 0xFF00) : owner n = .unusable := by
  unfold owner
  rw [if_neg (by omega), if_neg (by omega), if_neg (by omega), if_neg (by omega), if_neg (by omega), if_pos (by omega)]

end Sys2Proof.Machine
end

