-- ==== Sys2Proof/Laws/PerInstr.lean ====
section
/-! SUPPORT. The family `Length`: every instruction's encoding has one, two or three bytes (30_encoding.md R171, R179), said for each constructor. -/

namespace Sys2Proof.Laws.Length

/-- One to three bytes. -/
def Statement (i : Instr) : Prop := 1 ≤ (encode i).length ∧ (encode i).length ≤ 3

/-- The bounds of a computed length. -/
theorem of_eval {i : Instr} (h : (Nat.ble 1 (encode i).length && Nat.ble (encode i).length 3) = true) : Statement i := by
  rw [Bool.and_eq_true] at h
  exact ⟨Nat.le_of_ble_eq_true h.1, Nat.le_of_ble_eq_true h.2⟩

theorem ldBcNn (nn : Word) : Statement (.ldBcNn nn) := of_eval rfl
theorem ldBN (n : Byte) : Statement (.ldBN n) := of_eval rfl
theorem ldMemNnSp (nn : Word) : Statement (.ldMemNnSp nn) := of_eval rfl
theorem ldCN (n : Byte) : Statement (.ldCN n) := of_eval rfl
theorem ldDeNn (nn : Word) : Statement (.ldDeNn nn) := of_eval rfl
theorem ldDN (n : Byte) : Statement (.ldDN n) := of_eval rfl
theorem jrE (e : Byte) : Statement (.jrE e) := of_eval rfl
theorem ldEN (n : Byte) : Statement (.ldEN n) := of_eval rfl
theorem jrNzE (e : Byte) : Statement (.jrNzE e) := of_eval rfl
theorem ldHlNn (nn : Word) : Statement (.ldHlNn nn) := of_eval rfl
theorem ldHN (n : Byte) : Statement (.ldHN n) := of_eval rfl
theorem jrZE (e : Byte) : Statement (.jrZE e) := of_eval rfl
theorem ldLN (n : Byte) : Statement (.ldLN n) := of_eval rfl
theorem jrNcE (e : Byte) : Statement (.jrNcE e) := of_eval rfl
theorem ldSpNn (nn : Word) : Statement (.ldSpNn nn) := of_eval rfl
theorem ldMemHlN (n : Byte) : Statement (.ldMemHlN n) := of_eval rfl
theorem jrCE (e : Byte) : Statement (.jrCE e) := of_eval rfl
theorem ldAN (n : Byte) : Statement (.ldAN n) := of_eval rfl
theorem jpNzNn (nn : Word) : Statement (.jpNzNn nn) := of_eval rfl
theorem jpNn (nn : Word) : Statement (.jpNn nn) := of_eval rfl
theorem callNzNn (nn : Word) : Statement (.callNzNn nn) := of_eval rfl
theorem addAN (n : Byte) : Statement (.addAN n) := of_eval rfl
theorem jpZNn (nn : Word) : Statement (.jpZNn nn) := of_eval rfl
theorem callZNn (nn : Word) : Statement (.callZNn nn) := of_eval rfl
theorem callNn (nn : Word) : Statement (.callNn nn) := of_eval rfl
theorem adcAN (n : Byte) : Statement (.adcAN n) := of_eval rfl
theorem jpNcNn (nn : Word) : Statement (.jpNcNn nn) := of_eval rfl
theorem callNcNn (nn : Word) : Statement (.callNcNn nn) := of_eval rfl
theorem subN (n : Byte) : Statement (.subN n) := of_eval rfl
theorem jpCNn (nn : Word) : Statement (.jpCNn nn) := of_eval rfl
theorem callCNn (nn : Word) : Statement (.callCNn nn) := of_eval rfl
theorem sbcAN (n : Byte) : Statement (.sbcAN n) := of_eval rfl
theorem ldhMemNA (n : Byte) : Statement (.ldhMemNA n) := of_eval rfl
theorem andN (n : Byte) : Statement (.andN n) := of_eval rfl
theorem addSpE (e : Byte) : Statement (.addSpE e) := of_eval rfl
theorem ldMemNnA (nn : Word) : Statement (.ldMemNnA nn) := of_eval rfl
theorem xorN (n : Byte) : Statement (.xorN n) := of_eval rfl
theorem ldhAMemN (n : Byte) : Statement (.ldhAMemN n) := of_eval rfl
theorem orN (n : Byte) : Statement (.orN n) := of_eval rfl
theorem ldHlSpE (e : Byte) : Statement (.ldHlSpE e) := of_eval rfl
theorem ldAMemNn (nn : Word) : Statement (.ldAMemNn nn) := of_eval rfl
theorem cpN (n : Byte) : Statement (.cpN n) := of_eval rfl
theorem nop : Statement .nop := of_eval rfl
theorem ldMemBcA : Statement .ldMemBcA := of_eval rfl
theorem incBc : Statement .incBc := of_eval rfl
theorem incB : Statement .incB := of_eval rfl
theorem decB : Statement .decB := of_eval rfl
theorem rlca : Statement .rlca := of_eval rfl
theorem addHlBc : Statement .addHlBc := of_eval rfl
theorem ldAMemBc : Statement .ldAMemBc := of_eval rfl
theorem decBc : Statement .decBc := of_eval rfl
theorem incC : Statement .incC := of_eval rfl
theorem decC : Statement .decC := of_eval rfl
theorem rrca : Statement .rrca := of_eval rfl
theorem stop : Statement .stop := of_eval rfl
theorem ldMemDeA : Statement .ldMemDeA := of_eval rfl
theorem incDe : Statement .incDe := of_eval rfl
theorem incD : Statement .incD := of_eval rfl
theorem decD : Statement .decD := of_eval rfl
theorem rla : Statement .rla := of_eval rfl
theorem addHlDe : Statement .addHlDe := of_eval rfl
theorem ldAMemDe : Statement .ldAMemDe := of_eval rfl
theorem decDe : Statement .decDe := of_eval rfl
theorem incE : Statement .incE := of_eval rfl
theorem decE : Statement .decE := of_eval rfl
theorem rra : Statement .rra := of_eval rfl
theorem ldMemHlIncA : Statement .ldMemHlIncA := of_eval rfl
theorem incHl : Statement .incHl := of_eval rfl
theorem incH : Statement .incH := of_eval rfl
theorem decH : Statement .decH := of_eval rfl
theorem daa : Statement .daa := of_eval rfl
theorem addHlHl : Statement .addHlHl := of_eval rfl
theorem ldAMemHlInc : Statement .ldAMemHlInc := of_eval rfl
theorem decHl : Statement .decHl := of_eval rfl
theorem incL : Statement .incL := of_eval rfl
theorem decL : Statement .decL := of_eval rfl
theorem cpl : Statement .cpl := of_eval rfl
theorem ldMemHlDecA : Statement .ldMemHlDecA := of_eval rfl
theorem incSp : Statement .incSp := of_eval rfl
theorem incMemHl : Statement .incMemHl := of_eval rfl
theorem decMemHl : Statement .decMemHl := of_eval rfl
theorem scf : Statement .scf := of_eval rfl
theorem addHlSp : Statement .addHlSp := of_eval rfl
theorem ldAMemHlDec : Statement .ldAMemHlDec := of_eval rfl
theorem decSp : Statement .decSp := of_eval rfl
theorem incA : Statement .incA := of_eval rfl
theorem decA : Statement .decA := of_eval rfl
theorem ccf : Statement .ccf := of_eval rfl
theorem ldBB : Statement .ldBB := of_eval rfl
theorem ldBC : Statement .ldBC := of_eval rfl
theorem ldBD : Statement .ldBD := of_eval rfl
theorem ldBE : Statement .ldBE := of_eval rfl
theorem ldBH : Statement .ldBH := of_eval rfl
theorem ldBL : Statement .ldBL := of_eval rfl
theorem ldBMemHl : Statement .ldBMemHl := of_eval rfl
theorem ldBA : Statement .ldBA := of_eval rfl
theorem ldCB : Statement .ldCB := of_eval rfl
theorem ldCC : Statement .ldCC := of_eval rfl
theorem ldCD : Statement .ldCD := of_eval rfl
theorem ldCE : Statement .ldCE := of_eval rfl
theorem ldCH : Statement .ldCH := of_eval rfl
theorem ldCL : Statement .ldCL := of_eval rfl
theorem ldCMemHl : Statement .ldCMemHl := of_eval rfl
theorem ldCA : Statement .ldCA := of_eval rfl
theorem ldDB : Statement .ldDB := of_eval rfl
theorem ldDC : Statement .ldDC := of_eval rfl
theorem ldDD : Statement .ldDD := of_eval rfl
theorem ldDE : Statement .ldDE := of_eval rfl
theorem ldDH : Statement .ldDH := of_eval rfl
theorem ldDL : Statement .ldDL := of_eval rfl
theorem ldDMemHl : Statement .ldDMemHl := of_eval rfl
theorem ldDA : Statement .ldDA := of_eval rfl
theorem ldEB : Statement .ldEB := of_eval rfl
theorem ldEC : Statement .ldEC := of_eval rfl
theorem ldED : Statement .ldED := of_eval rfl
theorem ldEE : Statement .ldEE := of_eval rfl
theorem ldEH : Statement .ldEH := of_eval rfl
theorem ldEL : Statement .ldEL := of_eval rfl
theorem ldEMemHl : Statement .ldEMemHl := of_eval rfl
theorem ldEA : Statement .ldEA := of_eval rfl
theorem ldHB : Statement .ldHB := of_eval rfl
theorem ldHC : Statement .ldHC := of_eval rfl
theorem ldHD : Statement .ldHD := of_eval rfl
theorem ldHE : Statement .ldHE := of_eval rfl
theorem ldHH : Statement .ldHH := of_eval rfl
theorem ldHL : Statement .ldHL := of_eval rfl
theorem ldHMemHl : Statement .ldHMemHl := of_eval rfl
theorem ldHA : Statement .ldHA := of_eval rfl
theorem ldLB : Statement .ldLB := of_eval rfl
theorem ldLC : Statement .ldLC := of_eval rfl
theorem ldLD : Statement .ldLD := of_eval rfl
theorem ldLE : Statement .ldLE := of_eval rfl
theorem ldLH : Statement .ldLH := of_eval rfl
theorem ldLL : Statement .ldLL := of_eval rfl
theorem ldLMemHl : Statement .ldLMemHl := of_eval rfl
theorem ldLA : Statement .ldLA := of_eval rfl
theorem ldMemHlB : Statement .ldMemHlB := of_eval rfl
theorem ldMemHlC : Statement .ldMemHlC := of_eval rfl
theorem ldMemHlD : Statement .ldMemHlD := of_eval rfl
theorem ldMemHlE : Statement .ldMemHlE := of_eval rfl
theorem ldMemHlH : Statement .ldMemHlH := of_eval rfl
theorem ldMemHlL : Statement .ldMemHlL := of_eval rfl
theorem halt : Statement .halt := of_eval rfl
theorem ldMemHlA : Statement .ldMemHlA := of_eval rfl
theorem ldAB : Statement .ldAB := of_eval rfl
theorem ldAC : Statement .ldAC := of_eval rfl
theorem ldAD : Statement .ldAD := of_eval rfl
theorem ldAE : Statement .ldAE := of_eval rfl
theorem ldAH : Statement .ldAH := of_eval rfl
theorem ldAL : Statement .ldAL := of_eval rfl
theorem ldAMemHl : Statement .ldAMemHl := of_eval rfl
theorem ldAA : Statement .ldAA := of_eval rfl
theorem addAB : Statement .addAB := of_eval rfl
theorem addAC : Statement .addAC := of_eval rfl
theorem addAD : Statement .addAD := of_eval rfl
theorem addAE : Statement .addAE := of_eval rfl
theorem addAH : Statement .addAH := of_eval rfl
theorem addAL : Statement .addAL := of_eval rfl
theorem addAMemHl : Statement .addAMemHl := of_eval rfl
theorem addAA : Statement .addAA := of_eval rfl
theorem adcAB : Statement .adcAB := of_eval rfl
theorem adcAC : Statement .adcAC := of_eval rfl
theorem adcAD : Statement .adcAD := of_eval rfl
theorem adcAE : Statement .adcAE := of_eval rfl
theorem adcAH : Statement .adcAH := of_eval rfl
theorem adcAL : Statement .adcAL := of_eval rfl
theorem adcAMemHl : Statement .adcAMemHl := of_eval rfl
theorem adcAA : Statement .adcAA := of_eval rfl
theorem subB : Statement .subB := of_eval rfl
theorem subC : Statement .subC := of_eval rfl
theorem subD : Statement .subD := of_eval rfl
theorem subE : Statement .subE := of_eval rfl
theorem subH : Statement .subH := of_eval rfl
theorem subL : Statement .subL := of_eval rfl
theorem subMemHl : Statement .subMemHl := of_eval rfl
theorem subA : Statement .subA := of_eval rfl
theorem sbcAB : Statement .sbcAB := of_eval rfl
theorem sbcAC : Statement .sbcAC := of_eval rfl
theorem sbcAD : Statement .sbcAD := of_eval rfl
theorem sbcAE : Statement .sbcAE := of_eval rfl
theorem sbcAH : Statement .sbcAH := of_eval rfl
theorem sbcAL : Statement .sbcAL := of_eval rfl
theorem sbcAMemHl : Statement .sbcAMemHl := of_eval rfl
theorem sbcAA : Statement .sbcAA := of_eval rfl
theorem andB : Statement .andB := of_eval rfl
theorem andC : Statement .andC := of_eval rfl
theorem andD : Statement .andD := of_eval rfl
theorem andE : Statement .andE := of_eval rfl
theorem andH : Statement .andH := of_eval rfl
theorem andL : Statement .andL := of_eval rfl
theorem andMemHl : Statement .andMemHl := of_eval rfl
theorem andA : Statement .andA := of_eval rfl
theorem xorB : Statement .xorB := of_eval rfl
theorem xorC : Statement .xorC := of_eval rfl
theorem xorD : Statement .xorD := of_eval rfl
theorem xorE : Statement .xorE := of_eval rfl
theorem xorH : Statement .xorH := of_eval rfl
theorem xorL : Statement .xorL := of_eval rfl
theorem xorMemHl : Statement .xorMemHl := of_eval rfl
theorem xorA : Statement .xorA := of_eval rfl
theorem orB : Statement .orB := of_eval rfl
theorem orC : Statement .orC := of_eval rfl
theorem orD : Statement .orD := of_eval rfl
theorem orE : Statement .orE := of_eval rfl
theorem orH : Statement .orH := of_eval rfl
theorem orL : Statement .orL := of_eval rfl
theorem orMemHl : Statement .orMemHl := of_eval rfl
theorem orA : Statement .orA := of_eval rfl
theorem cpB : Statement .cpB := of_eval rfl
theorem cpC : Statement .cpC := of_eval rfl
theorem cpD : Statement .cpD := of_eval rfl
theorem cpE : Statement .cpE := of_eval rfl
theorem cpH : Statement .cpH := of_eval rfl
theorem cpL : Statement .cpL := of_eval rfl
theorem cpMemHl : Statement .cpMemHl := of_eval rfl
theorem cpA : Statement .cpA := of_eval rfl
theorem retNz : Statement .retNz := of_eval rfl
theorem popBc : Statement .popBc := of_eval rfl
theorem pushBc : Statement .pushBc := of_eval rfl
theorem rst00 : Statement .rst00 := of_eval rfl
theorem retZ : Statement .retZ := of_eval rfl
theorem ret : Statement .ret := of_eval rfl
theorem prefixCb : Statement .prefixCb := of_eval rfl
theorem rst08 : Statement .rst08 := of_eval rfl
theorem retNc : Statement .retNc := of_eval rfl
theorem popDe : Statement .popDe := of_eval rfl
theorem illegalD3 : Statement .illegalD3 := of_eval rfl
theorem pushDe : Statement .pushDe := of_eval rfl
theorem rst10 : Statement .rst10 := of_eval rfl
theorem retC : Statement .retC := of_eval rfl
theorem reti : Statement .reti := of_eval rfl
theorem illegalDB : Statement .illegalDB := of_eval rfl
theorem illegalDD : Statement .illegalDD := of_eval rfl
theorem rst18 : Statement .rst18 := of_eval rfl
theorem popHl : Statement .popHl := of_eval rfl
theorem ldhMemCA : Statement .ldhMemCA := of_eval rfl
theorem illegalE3 : Statement .illegalE3 := of_eval rfl
theorem illegalE4 : Statement .illegalE4 := of_eval rfl
theorem pushHl : Statement .pushHl := of_eval rfl
theorem rst20 : Statement .rst20 := of_eval rfl
theorem jpHl : Statement .jpHl := of_eval rfl
theorem illegalEB : Statement .illegalEB := of_eval rfl
theorem illegalEC : Statement .illegalEC := of_eval rfl
theorem illegalED : Statement .illegalED := of_eval rfl
theorem rst28 : Statement .rst28 := of_eval rfl
theorem popAf : Statement .popAf := of_eval rfl
theorem ldhAMemC : Statement .ldhAMemC := of_eval rfl
theorem di : Statement .di := of_eval rfl
theorem illegalF4 : Statement .illegalF4 := of_eval rfl
theorem pushAf : Statement .pushAf := of_eval rfl
theorem rst30 : Statement .rst30 := of_eval rfl
theorem ldSpHl : Statement .ldSpHl := of_eval rfl
theorem ei : Statement .ei := of_eval rfl
theorem illegalFC : Statement .illegalFC := of_eval rfl
theorem illegalFD : Statement .illegalFD := of_eval rfl
theorem rst38 : Statement .rst38 := of_eval rfl
theorem rlcB : Statement .rlcB := of_eval rfl
theorem rlcC : Statement .rlcC := of_eval rfl
theorem rlcD : Statement .rlcD := of_eval rfl
theorem rlcE : Statement .rlcE := of_eval rfl
theorem rlcH : Statement .rlcH := of_eval rfl
theorem rlcL : Statement .rlcL := of_eval rfl
theorem rlcMemHl : Statement .rlcMemHl := of_eval rfl
theorem rlcA : Statement .rlcA := of_eval rfl
theorem rrcB : Statement .rrcB := of_eval rfl
theorem rrcC : Statement .rrcC := of_eval rfl
theorem rrcD : Statement .rrcD := of_eval rfl
theorem rrcE : Statement .rrcE := of_eval rfl
theorem rrcH : Statement .rrcH := of_eval rfl
theorem rrcL : Statement .rrcL := of_eval rfl
theorem rrcMemHl : Statement .rrcMemHl := of_eval rfl
theorem rrcA : Statement .rrcA := of_eval rfl
theorem rlB : Statement .rlB := of_eval rfl
theorem rlC : Statement .rlC := of_eval rfl
theorem rlD : Statement .rlD := of_eval rfl
theorem rlE : Statement .rlE := of_eval rfl
theorem rlH : Statement .rlH := of_eval rfl
theorem rlL : Statement .rlL := of_eval rfl
theorem rlMemHl : Statement .rlMemHl := of_eval rfl
theorem rlA : Statement .rlA := of_eval rfl
theorem rrB : Statement .rrB := of_eval rfl
theorem rrC : Statement .rrC := of_eval rfl
theorem rrD : Statement .rrD := of_eval rfl
theorem rrE : Statement .rrE := of_eval rfl
theorem rrH : Statement .rrH := of_eval rfl
theorem rrL : Statement .rrL := of_eval rfl
theorem rrMemHl : Statement .rrMemHl := of_eval rfl
theorem rrA : Statement .rrA := of_eval rfl
theorem slaB : Statement .slaB := of_eval rfl
theorem slaC : Statement .slaC := of_eval rfl
theorem slaD : Statement .slaD := of_eval rfl
theorem slaE : Statement .slaE := of_eval rfl
theorem slaH : Statement .slaH := of_eval rfl
theorem slaL : Statement .slaL := of_eval rfl
theorem slaMemHl : Statement .slaMemHl := of_eval rfl
theorem slaA : Statement .slaA := of_eval rfl
theorem sraB : Statement .sraB := of_eval rfl
theorem sraC : Statement .sraC := of_eval rfl
theorem sraD : Statement .sraD := of_eval rfl
theorem sraE : Statement .sraE := of_eval rfl
theorem sraH : Statement .sraH := of_eval rfl
theorem sraL : Statement .sraL := of_eval rfl
theorem sraMemHl : Statement .sraMemHl := of_eval rfl
theorem sraA : Statement .sraA := of_eval rfl
theorem swapB : Statement .swapB := of_eval rfl
theorem swapC : Statement .swapC := of_eval rfl
theorem swapD : Statement .swapD := of_eval rfl
theorem swapE : Statement .swapE := of_eval rfl
theorem swapH : Statement .swapH := of_eval rfl
theorem swapL : Statement .swapL := of_eval rfl
theorem swapMemHl : Statement .swapMemHl := of_eval rfl
theorem swapA : Statement .swapA := of_eval rfl
theorem srlB : Statement .srlB := of_eval rfl
theorem srlC : Statement .srlC := of_eval rfl
theorem srlD : Statement .srlD := of_eval rfl
theorem srlE : Statement .srlE := of_eval rfl
theorem srlH : Statement .srlH := of_eval rfl
theorem srlL : Statement .srlL := of_eval rfl
theorem srlMemHl : Statement .srlMemHl := of_eval rfl
theorem srlA : Statement .srlA := of_eval rfl
theorem bit0B : Statement .bit0B := of_eval rfl
theorem bit0C : Statement .bit0C := of_eval rfl
theorem bit0D : Statement .bit0D := of_eval rfl
theorem bit0E : Statement .bit0E := of_eval rfl
theorem bit0H : Statement .bit0H := of_eval rfl
theorem bit0L : Statement .bit0L := of_eval rfl
theorem bit0MemHl : Statement .bit0MemHl := of_eval rfl
theorem bit0A : Statement .bit0A := of_eval rfl
theorem bit1B : Statement .bit1B := of_eval rfl
theorem bit1C : Statement .bit1C := of_eval rfl
theorem bit1D : Statement .bit1D := of_eval rfl
theorem bit1E : Statement .bit1E := of_eval rfl
theorem bit1H : Statement .bit1H := of_eval rfl
theorem bit1L : Statement .bit1L := of_eval rfl
theorem bit1MemHl : Statement .bit1MemHl := of_eval rfl
theorem bit1A : Statement .bit1A := of_eval rfl
theorem bit2B : Statement .bit2B := of_eval rfl
theorem bit2C : Statement .bit2C := of_eval rfl
theorem bit2D : Statement .bit2D := of_eval rfl
theorem bit2E : Statement .bit2E := of_eval rfl
theorem bit2H : Statement .bit2H := of_eval rfl
theorem bit2L : Statement .bit2L := of_eval rfl
theorem bit2MemHl : Statement .bit2MemHl := of_eval rfl
theorem bit2A : Statement .bit2A := of_eval rfl
theorem bit3B : Statement .bit3B := of_eval rfl
theorem bit3C : Statement .bit3C := of_eval rfl
theorem bit3D : Statement .bit3D := of_eval rfl
theorem bit3E : Statement .bit3E := of_eval rfl
theorem bit3H : Statement .bit3H := of_eval rfl
theorem bit3L : Statement .bit3L := of_eval rfl
theorem bit3MemHl : Statement .bit3MemHl := of_eval rfl
theorem bit3A : Statement .bit3A := of_eval rfl
theorem bit4B : Statement .bit4B := of_eval rfl
theorem bit4C : Statement .bit4C := of_eval rfl
theorem bit4D : Statement .bit4D := of_eval rfl
theorem bit4E : Statement .bit4E := of_eval rfl
theorem bit4H : Statement .bit4H := of_eval rfl
theorem bit4L : Statement .bit4L := of_eval rfl
theorem bit4MemHl : Statement .bit4MemHl := of_eval rfl
theorem bit4A : Statement .bit4A := of_eval rfl
theorem bit5B : Statement .bit5B := of_eval rfl
theorem bit5C : Statement .bit5C := of_eval rfl
theorem bit5D : Statement .bit5D := of_eval rfl
theorem bit5E : Statement .bit5E := of_eval rfl
theorem bit5H : Statement .bit5H := of_eval rfl
theorem bit5L : Statement .bit5L := of_eval rfl
theorem bit5MemHl : Statement .bit5MemHl := of_eval rfl
theorem bit5A : Statement .bit5A := of_eval rfl
theorem bit6B : Statement .bit6B := of_eval rfl
theorem bit6C : Statement .bit6C := of_eval rfl
theorem bit6D : Statement .bit6D := of_eval rfl
theorem bit6E : Statement .bit6E := of_eval rfl
theorem bit6H : Statement .bit6H := of_eval rfl
theorem bit6L : Statement .bit6L := of_eval rfl
theorem bit6MemHl : Statement .bit6MemHl := of_eval rfl
theorem bit6A : Statement .bit6A := of_eval rfl
theorem bit7B : Statement .bit7B := of_eval rfl
theorem bit7C : Statement .bit7C := of_eval rfl
theorem bit7D : Statement .bit7D := of_eval rfl
theorem bit7E : Statement .bit7E := of_eval rfl
theorem bit7H : Statement .bit7H := of_eval rfl
theorem bit7L : Statement .bit7L := of_eval rfl
theorem bit7MemHl : Statement .bit7MemHl := of_eval rfl
theorem bit7A : Statement .bit7A := of_eval rfl
theorem res0B : Statement .res0B := of_eval rfl
theorem res0C : Statement .res0C := of_eval rfl
theorem res0D : Statement .res0D := of_eval rfl
theorem res0E : Statement .res0E := of_eval rfl
theorem res0H : Statement .res0H := of_eval rfl
theorem res0L : Statement .res0L := of_eval rfl
theorem res0MemHl : Statement .res0MemHl := of_eval rfl
theorem res0A : Statement .res0A := of_eval rfl
theorem res1B : Statement .res1B := of_eval rfl
theorem res1C : Statement .res1C := of_eval rfl
theorem res1D : Statement .res1D := of_eval rfl
theorem res1E : Statement .res1E := of_eval rfl
theorem res1H : Statement .res1H := of_eval rfl
theorem res1L : Statement .res1L := of_eval rfl
theorem res1MemHl : Statement .res1MemHl := of_eval rfl
theorem res1A : Statement .res1A := of_eval rfl
theorem res2B : Statement .res2B := of_eval rfl
theorem res2C : Statement .res2C := of_eval rfl
theorem res2D : Statement .res2D := of_eval rfl
theorem res2E : Statement .res2E := of_eval rfl
theorem res2H : Statement .res2H := of_eval rfl
theorem res2L : Statement .res2L := of_eval rfl
theorem res2MemHl : Statement .res2MemHl := of_eval rfl
theorem res2A : Statement .res2A := of_eval rfl
theorem res3B : Statement .res3B := of_eval rfl
theorem res3C : Statement .res3C := of_eval rfl
theorem res3D : Statement .res3D := of_eval rfl
theorem res3E : Statement .res3E := of_eval rfl
theorem res3H : Statement .res3H := of_eval rfl
theorem res3L : Statement .res3L := of_eval rfl
theorem res3MemHl : Statement .res3MemHl := of_eval rfl
theorem res3A : Statement .res3A := of_eval rfl
theorem res4B : Statement .res4B := of_eval rfl
theorem res4C : Statement .res4C := of_eval rfl
theorem res4D : Statement .res4D := of_eval rfl
theorem res4E : Statement .res4E := of_eval rfl
theorem res4H : Statement .res4H := of_eval rfl
theorem res4L : Statement .res4L := of_eval rfl
theorem res4MemHl : Statement .res4MemHl := of_eval rfl
theorem res4A : Statement .res4A := of_eval rfl
theorem res5B : Statement .res5B := of_eval rfl
theorem res5C : Statement .res5C := of_eval rfl
theorem res5D : Statement .res5D := of_eval rfl
theorem res5E : Statement .res5E := of_eval rfl
theorem res5H : Statement .res5H := of_eval rfl
theorem res5L : Statement .res5L := of_eval rfl
theorem res5MemHl : Statement .res5MemHl := of_eval rfl
theorem res5A : Statement .res5A := of_eval rfl
theorem res6B : Statement .res6B := of_eval rfl
theorem res6C : Statement .res6C := of_eval rfl
theorem res6D : Statement .res6D := of_eval rfl
theorem res6E : Statement .res6E := of_eval rfl
theorem res6H : Statement .res6H := of_eval rfl
theorem res6L : Statement .res6L := of_eval rfl
theorem res6MemHl : Statement .res6MemHl := of_eval rfl
theorem res6A : Statement .res6A := of_eval rfl
theorem res7B : Statement .res7B := of_eval rfl
theorem res7C : Statement .res7C := of_eval rfl
theorem res7D : Statement .res7D := of_eval rfl
theorem res7E : Statement .res7E := of_eval rfl
theorem res7H : Statement .res7H := of_eval rfl
theorem res7L : Statement .res7L := of_eval rfl
theorem res7MemHl : Statement .res7MemHl := of_eval rfl
theorem res7A : Statement .res7A := of_eval rfl
theorem set0B : Statement .set0B := of_eval rfl
theorem set0C : Statement .set0C := of_eval rfl
theorem set0D : Statement .set0D := of_eval rfl
theorem set0E : Statement .set0E := of_eval rfl
theorem set0H : Statement .set0H := of_eval rfl
theorem set0L : Statement .set0L := of_eval rfl
theorem set0MemHl : Statement .set0MemHl := of_eval rfl
theorem set0A : Statement .set0A := of_eval rfl
theorem set1B : Statement .set1B := of_eval rfl
theorem set1C : Statement .set1C := of_eval rfl
theorem set1D : Statement .set1D := of_eval rfl
theorem set1E : Statement .set1E := of_eval rfl
theorem set1H : Statement .set1H := of_eval rfl
theorem set1L : Statement .set1L := of_eval rfl
theorem set1MemHl : Statement .set1MemHl := of_eval rfl
theorem set1A : Statement .set1A := of_eval rfl
theorem set2B : Statement .set2B := of_eval rfl
theorem set2C : Statement .set2C := of_eval rfl
theorem set2D : Statement .set2D := of_eval rfl
theorem set2E : Statement .set2E := of_eval rfl
theorem set2H : Statement .set2H := of_eval rfl
theorem set2L : Statement .set2L := of_eval rfl
theorem set2MemHl : Statement .set2MemHl := of_eval rfl
theorem set2A : Statement .set2A := of_eval rfl
theorem set3B : Statement .set3B := of_eval rfl
theorem set3C : Statement .set3C := of_eval rfl
theorem set3D : Statement .set3D := of_eval rfl
theorem set3E : Statement .set3E := of_eval rfl
theorem set3H : Statement .set3H := of_eval rfl
theorem set3L : Statement .set3L := of_eval rfl
theorem set3MemHl : Statement .set3MemHl := of_eval rfl
theorem set3A : Statement .set3A := of_eval rfl
theorem set4B : Statement .set4B := of_eval rfl
theorem set4C : Statement .set4C := of_eval rfl
theorem set4D : Statement .set4D := of_eval rfl
theorem set4E : Statement .set4E := of_eval rfl
theorem set4H : Statement .set4H := of_eval rfl
theorem set4L : Statement .set4L := of_eval rfl
theorem set4MemHl : Statement .set4MemHl := of_eval rfl
theorem set4A : Statement .set4A := of_eval rfl
theorem set5B : Statement .set5B := of_eval rfl
theorem set5C : Statement .set5C := of_eval rfl
theorem set5D : Statement .set5D := of_eval rfl
theorem set5E : Statement .set5E := of_eval rfl
theorem set5H : Statement .set5H := of_eval rfl
theorem set5L : Statement .set5L := of_eval rfl
theorem set5MemHl : Statement .set5MemHl := of_eval rfl
theorem set5A : Statement .set5A := of_eval rfl
theorem set6B : Statement .set6B := of_eval rfl
theorem set6C : Statement .set6C := of_eval rfl
theorem set6D : Statement .set6D := of_eval rfl
theorem set6E : Statement .set6E := of_eval rfl
theorem set6H : Statement .set6H := of_eval rfl
theorem set6L : Statement .set6L := of_eval rfl
theorem set6MemHl : Statement .set6MemHl := of_eval rfl
theorem set6A : Statement .set6A := of_eval rfl
theorem set7B : Statement .set7B := of_eval rfl
theorem set7C : Statement .set7C := of_eval rfl
theorem set7D : Statement .set7D := of_eval rfl
theorem set7E : Statement .set7E := of_eval rfl
theorem set7H : Statement .set7H := of_eval rfl
theorem set7L : Statement .set7L := of_eval rfl
theorem set7MemHl : Statement .set7MemHl := of_eval rfl
theorem set7A : Statement .set7A := of_eval rfl

end Sys2Proof.Laws.Length
end

