-- ==== Sys2Proof/Tests/Slice0.lean ====
section
/-! SUPPORT. Tests, and a witness for each statement that has hypotheses. The expected results are the spec's own vectors (95_test_vectors.md), its
encodings (30_encoding.md) and its reset values; each theorem names its source. -/

namespace Sys2Proof.Tests

open Sys2Proof.Machine

set_option Elab.async false

/-! ### Helpers -/

/-- The reset state with these registers, bytes at 0x0100 of the test cartridge and bytes of RAM (95_test_vectors.md section 0). -/
def start (code : List Byte) (ram : List (Nat × Byte)) (cpu : Cpu) : State :=
  placeBytes code 0x100 (ram.foldl (fun s x => s.setRam x.1 x.2) { State.reset with cpu := cpu })

/-- The same with IE. -/
def withIe (v : Byte) (s : State) : State := { s with irq := { s.irq with enable := v } }

/-- The same with IF. -/
def withIf (v : BitVec 5) (s : State) : State := { s with irq := { s.irq with flags := v } }

/-- The same with the display off, so that no memory is blocked by the pipeline. -/
def displayOff (s : State) : State := { s with ppu := { s.ppu with lcdc := 0x11 } }

/-- The state after one step that goes on. -/
def after (s : State) : Option State :=
  match step s with
  | .next t => some t
  | .fault _ => none
  | .refused _ => none

/-- The refusal a step ends in. -/
def refusal (s : State) : Option Refusal :=
  match step s with
  | .next _ => none
  | .fault _ => none
  | .refused r => some r

/-- The state after two such steps. -/
def afterTwo (s : State) : Option State := (after s).bind after

/-! ### Well-formedness -/

/-- The bare prefix is no whole instruction (45_system.md R385). -/
theorem test_bare_prefix_ill_formed : Instr.prefixCb.wellFormed = false := by decide

/-- A prefixed row, and an undefined opcode, are whole instructions. -/
theorem test_whole_instructions : Instr.swapA.wellFormed = true ∧ Instr.illegalD3.wellFormed = true := by decide

/-! ### Decoding: words written out from 30_encoding.md R172 to R185 -/

/-- `LD r8[y], r8[z]`: 01 yyy zzz with y = 4 (H), z = 7 (A). -/
theorem test_decode_ld_h_a : decode [0b01100111] = .ok (.ldHA, []) := by decide

/-- `LD r16[p], nn`: 00 pp 0001 with p = 2 (HL), little-endian. -/
theorem test_decode_ld_hl_nn : decode [0b00100001, 0x34, 0x12] = .ok (.ldHlNn 0x1234, []) := by decide

/-- `PUSH r16stk[p]`: 11 pp 0101 with p = 3 (AF). -/
theorem test_decode_push_af : decode [0b11110101, 0x99] = .ok (.pushAf, [0x99]) := by decide

/-- `alu[y] r8[z]`: 10 yyy zzz with y = 3 (SBC), z = 5 (L). -/
theorem test_decode_sbc_l : decode [0b10011101] = .ok (.sbcAL, []) := by decide

/-- `ADD HL, r16[p]`: 00 pp 1001 with p = 3 (SP). -/
theorem test_decode_add_hl_sp : decode [0b00111001] = .ok (.addHlSp, []) := by decide

/-- `BIT y, r8[z]`: CB, 01 yyy zzz with y = 5, z = 6, the byte at HL. -/
theorem test_decode_bit_5_hl : decode [0b11001011, 0b01101110] = .ok (.bit5MemHl, []) := by decide

/-- `JR cc, e`: 001 cc 000 with cc = 3 (C). -/
theorem test_decode_jr_c : decode [0b00111000, 0xFE] = .ok (.jrCE 0xFE, []) := by decide

/-- `RST`: 11 yyy 111 with y = 5. -/
theorem test_decode_rst_28 : decode [0b11101111] = .ok (.rst28, []) := by decide

/-- STOP's second byte is skipped whatever its value (45_system.md R382). -/
theorem test_decode_stop : decode [0x10, 0x77, 0x01] = .ok (.stop, [0x01]) := by decide

/-- No bytes, or too few, are no instruction. -/
theorem test_decode_truncated : (decode []).toOption = none ∧ (decode [0xC3, 0x00]).toOption = none := by decide

/-- A prefixed row's word, 0xCB in its high byte as 30_encoding.md R185 writes it, and in its low byte, the first byte of memory. -/
theorem test_table_word_prefixed : decodeTableWord 16 0xCB37 = some .swapA ∧ decodeTableWord 16 0x37CB = some .swapA := by decide

/-- An operand word the table gives no bits reads as zeros. -/
theorem test_table_word_short : decodeTableWord 8 0xC3 = some (.jpNn 0) := by decide

/-- The placed word is what the next step runs: `CALL 0x0000` from reset takes 6 machine cycles (44_control.md R356). -/
theorem test_placed_word_runs :
    (after (State.reset.withFetchWord 8 0xCD)).map (fun t => (t.cpu.pc, t.cpu.sp, t.sched.mcycle)) = some (0x0000, 0xFFFC, 6) := by
  decide +kernel

/-! ### Loads, stores, stack (95_test_vectors.md, vectors V40) -/

/-- V40.1: LD A,B, R201. -/
theorem test_v40_1 :
    (after (start [0x78] [] { Cpu.reset with a := 0x00, b := 0x12 })).map (fun t => (t.cpu.f, t.cpu.a, t.cpu.pc, t.sched.mcycle)) =
      some (0xB0, 0x12, 0x0101, 1) := by
  decide +kernel

/-- V40.2: LD C,n, R202. -/
theorem test_v40_2 :
    (after (start [0x0E, 0x5A] [] Cpu.reset)).map (fun t => (t.cpu.f, t.cpu.c, t.cpu.pc, t.sched.mcycle)) =
      some (0xB0, 0x5A, 0x0102, 2) := by
  decide +kernel

/-- V40.3: LD D,(HL), R203. -/
theorem test_v40_3 :
    (after (start [0x56] [(0xC000, 0x99)] { Cpu.reset with h := 0xC0, l := 0x00 })).map (fun t => (t.cpu.f, t.cpu.d, t.cpu.pc, t.sched.mcycle)) =
      some (0xB0, 0x99, 0x0101, 2) := by
  decide +kernel

/-- V40.4: LD (HL),A, R204. -/
theorem test_v40_4 :
    (after (start [0x77] [] { Cpu.reset with a := 0x7F, h := 0xC0, l := 0x10 })).map (fun t => (t.cpu.f, t.cpu.pc, t.routerRead 0xC010, t.sched.mcycle)) =
      some (0xB0, 0x0101, 0x7F, 2) := by
  decide +kernel

/-- V40.5: LD (HL),n, R205. -/
theorem test_v40_5 :
    (after (start [0x36, 0xAB] [] { Cpu.reset with h := 0xD0, l := 0x00 })).map (fun t => (t.cpu.f, t.cpu.pc, t.routerRead 0xD000, t.sched.mcycle)) =
      some (0xB0, 0x0102, 0xAB, 3) := by
  decide +kernel

/-- V40.6: LD A,(BC), R206. -/
theorem test_v40_6 :
    (after (start [0x0A] [(0xC123, 0x42)] { Cpu.reset with b := 0xC1, c := 0x23 })).map (fun t => (t.cpu.f, t.cpu.a, t.cpu.pc, t.sched.mcycle)) =
      some (0xB0, 0x42, 0x0101, 2) := by
  decide +kernel

/-- V40.9: LD (DE),A, R209. -/
theorem test_v40_9 :
    (after (start [0x12] [] { Cpu.reset with a := 0x22, d := 0xC1, e := 0x00 })).map (fun t => (t.cpu.f, t.cpu.pc, t.routerRead 0xC100, t.sched.mcycle)) =
      some (0xB0, 0x0101, 0x22, 2) := by
  decide +kernel

/-- V40.10: LD A,(nn), R210. -/
theorem test_v40_10 :
    (after (start [0xFA, 0x34, 0xC2] [(0xC234, 0x5E)] Cpu.reset)).map (fun t => (t.cpu.f, t.cpu.a, t.cpu.pc, t.sched.mcycle)) =
      some (0xB0, 0x5E, 0x0103, 4) := by
  decide +kernel

/-- V40.11: LD (nn),A, R211. -/
theorem test_v40_11 :
    (after (start [0xEA, 0x00, 0xC3] [] { Cpu.reset with a := 0x77 })).map (fun t => (t.cpu.f, t.cpu.pc, t.routerRead 0xC300, t.sched.mcycle)) =
      some (0xB0, 0x0103, 0x77, 4) := by
  decide +kernel

/-- V40.12: LDH A,(n), R212. -/
theorem test_v40_12 :
    (after (start [0xF0, 0x80] [(0xFF80, 0x3C)] Cpu.reset)).map (fun t => (t.cpu.f, t.cpu.a, t.cpu.pc, t.sched.mcycle)) =
      some (0xB0, 0x3C, 0x0102, 3) := by
  decide +kernel

/-- V40.13: LDH (n),A, R213. -/
theorem test_v40_13 :
    (after (start [0xE0, 0x81] [] { Cpu.reset with a := 0x44 })).map (fun t => (t.cpu.f, t.cpu.pc, t.routerRead 0xFF81, t.sched.mcycle)) =
      some (0xB0, 0x0102, 0x44, 3) := by
  decide +kernel

/-- V40.14: LDH A,(C), R214. -/
theorem test_v40_14 :
    (after (start [0xF2] [(0xFF82, 0x9A)] { Cpu.reset with c := 0x82 })).map (fun t => (t.cpu.f, t.cpu.a, t.cpu.pc, t.sched.mcycle)) =
      some (0xB0, 0x9A, 0x0101, 2) := by
  decide +kernel

/-- V40.15: LDH (C),A, R215. -/
theorem test_v40_15 :
    (after (start [0xE2] [] { Cpu.reset with a := 0x55, c := 0x83 })).map (fun t => (t.cpu.f, t.cpu.pc, t.routerRead 0xFF83, t.sched.mcycle)) =
      some (0xB0, 0x0101, 0x55, 2) := by
  decide +kernel

/-- V40.16: LD (HL+),A, R218. -/
theorem test_v40_16 :
    (after (start [0x22] [] { Cpu.reset with a := 0x10, h := 0xFF, l := 0xFF })).map (fun t => (t.cpu.f, t.cpu.h, t.cpu.l, t.cpu.pc, t.routerRead 0xFFFF, t.sched.mcycle)) =
      some (0xB0, 0x00, 0x00, 0x0101, 0x10, 2) := by
  decide +kernel

/-- V40.17: LD A,(HL+), R216. -/
theorem test_v40_17 :
    (after (start [0x2A] [(0xC000, 0x61)] { Cpu.reset with h := 0xC0, l := 0x00 })).map (fun t => (t.cpu.f, t.cpu.a, t.cpu.l, t.cpu.pc, t.sched.mcycle)) =
      some (0xB0, 0x61, 0x01, 0x0101, 2) := by
  decide +kernel

/-- V40.18: LD (HL-),A, R219. -/
theorem test_v40_18 :
    (after (start [0x32] [] { Cpu.reset with a := 0x62, h := 0xC0, l := 0x00 })).map (fun t => (t.cpu.f, t.cpu.h, t.cpu.l, t.cpu.pc, t.routerRead 0xC000, t.sched.mcycle)) =
      some (0xB0, 0xBF, 0xFF, 0x0101, 0x62, 2) := by
  decide +kernel

/-- V40.19: LD A,(HL-), R217. -/
theorem test_v40_19 :
    (after (start [0x3A] [(0xC001, 0x63)] { Cpu.reset with h := 0xC0, l := 0x01 })).map (fun t => (t.cpu.f, t.cpu.a, t.cpu.l, t.cpu.pc, t.sched.mcycle)) =
      some (0xB0, 0x63, 0x00, 0x0101, 2) := by
  decide +kernel

/-- V40.20: LD BC,nn, R220. -/
theorem test_v40_20 :
    (after (start [0x01, 0x34, 0x12] [] Cpu.reset)).map (fun t => (t.cpu.f, t.cpu.b, t.cpu.c, t.cpu.pc, t.sched.mcycle)) =
      some (0xB0, 0x12, 0x34, 0x0103, 3) := by
  decide +kernel

/-- V40.22: LD (nn),SP, R221. -/
theorem test_v40_22 :
    (after (start [0x08, 0x00, 0xC0] [] { Cpu.reset with sp := 0xABCD })).map (fun t => (t.cpu.f, t.cpu.pc, t.routerRead 0xC000, t.routerRead 0xC001, t.sched.mcycle)) =
      some (0xB0, 0x0103, 0xCD, 0xAB, 5) := by
  decide +kernel

/-- V40.23: LD SP,HL, R222. -/
theorem test_v40_23 :
    (after (start [0xF9] [] { Cpu.reset with h := 0xC1, l := 0x00 })).map (fun t => (t.cpu.f, t.cpu.sp, t.cpu.pc, t.sched.mcycle)) =
      some (0xB0, 0xC100, 0x0101, 2) := by
  decide +kernel

/-- V40.24: PUSH BC, R223. -/
theorem test_v40_24 :
    (after (start [0xC5] [] { Cpu.reset with b := 0x12, c := 0x34, sp := 0xD000 })).map (fun t => (t.cpu.f, t.cpu.sp, t.cpu.pc, t.routerRead 0xCFFF, t.routerRead 0xCFFE, t.sched.mcycle)) =
      some (0xB0, 0xCFFE, 0x0101, 0x12, 0x34, 4) := by
  decide +kernel

/-- V40.26: POP DE, R225. -/
theorem test_v40_26 :
    (after (start [0xD1] [(0xCFFE, 0x34), (0xCFFF, 0x12)] { Cpu.reset with sp := 0xCFFE })).map (fun t => (t.cpu.f, t.cpu.d, t.cpu.e, t.cpu.sp, t.cpu.pc, t.sched.mcycle)) =
      some (0xB0, 0x12, 0x34, 0xD000, 0x0101, 3) := by
  decide +kernel

/-- V40.27: POP AF, R226. -/
theorem test_v40_27 :
    (after (start [0xF1] [(0xCFFE, 0xFF), (0xCFFF, 0x9A)] { Cpu.reset with sp := 0xCFFE })).map (fun t => (t.cpu.f, t.cpu.a, t.cpu.sp, t.cpu.pc, t.sched.mcycle)) =
      some (0xF0, 0x9A, 0xD000, 0x0101, 3) := by
  decide +kernel

/-- V40.28: LD A,(HL), R203. -/
theorem test_v40_28 :
    (after (start [0x7E] [(0xC005, 0xAA)] { Cpu.reset with h := 0xE0, l := 0x05 })).map (fun t => (t.cpu.f, t.cpu.a, t.cpu.pc, t.sched.mcycle)) =
      some (0xB0, 0xAA, 0x0101, 2) := by
  decide +kernel

/-- V40.30: LD A,(HL), R203. -/
theorem test_v40_30 :
    (after (start [0x7E] [] { Cpu.reset with a := 0x55, h := 0xFE, l := 0xA0 })).map (fun t => (t.cpu.f, t.cpu.a, t.cpu.pc, t.sched.mcycle)) =
      some (0xB0, 0x00, 0x0101, 2) := by
  decide +kernel

/-! ### 8-bit arithmetic and logic (95_test_vectors.md, vectors V41) -/

/-- V41.2: ADD A,B, R251. -/
theorem test_v41_2 :
    (after (start [0x80] [] { Cpu.reset with a := 0x0F, f := 0x00, b := 0x01 })).map (fun t => (t.cpu.f, t.cpu.a, t.cpu.pc, t.sched.mcycle)) =
      some (0x20, 0x10, 0x0101, 1) := by
  decide +kernel

/-- V41.5: ADC A,B, R254. -/
theorem test_v41_5 :
    (after (start [0x88] [] { Cpu.reset with a := 0xE1, f := 0x10, b := 0x0F })).map (fun t => (t.cpu.f, t.cpu.a, t.cpu.pc, t.sched.mcycle)) =
      some (0x20, 0xF1, 0x0101, 1) := by
  decide +kernel

/-- V41.8: SUB B, R257. -/
theorem test_v41_8 :
    (after (start [0x90] [] { Cpu.reset with a := 0x3E, f := 0x00, b := 0x3E })).map (fun t => (t.cpu.f, t.cpu.a, t.cpu.pc, t.sched.mcycle)) =
      some (0xC0, 0x00, 0x0101, 1) := by
  decide +kernel

/-- V41.10: SUB B, R257. -/
theorem test_v41_10 :
    (after (start [0x90] [] { Cpu.reset with a := 0x3E, f := 0x00, b := 0x40 })).map (fun t => (t.cpu.f, t.cpu.a, t.cpu.pc, t.sched.mcycle)) =
      some (0x50, 0xFE, 0x0101, 1) := by
  decide +kernel

/-- V41.13: SBC A,B, R260. -/
theorem test_v41_13 :
    (after (start [0x98] [] { Cpu.reset with a := 0x3B, f := 0x10, b := 0x4F })).map (fun t => (t.cpu.f, t.cpu.a, t.cpu.pc, t.sched.mcycle)) =
      some (0x70, 0xEB, 0x0101, 1) := by
  decide +kernel

/-- V41.16: AND B, R263. -/
theorem test_v41_16 :
    (after (start [0xA0] [] { Cpu.reset with a := 0x5A, f := 0x00, b := 0x3F })).map (fun t => (t.cpu.f, t.cpu.a, t.cpu.pc, t.sched.mcycle)) =
      some (0x20, 0x1A, 0x0101, 1) := by
  decide +kernel

/-- V41.18: XOR B, R266. -/
theorem test_v41_18 :
    (after (start [0xA8] [] { Cpu.reset with a := 0xFF, f := 0xF0, b := 0xFF })).map (fun t => (t.cpu.f, t.cpu.a, t.cpu.pc, t.sched.mcycle)) =
      some (0x80, 0x00, 0x0101, 1) := by
  decide +kernel

/-- V41.20: OR B, R269. -/
theorem test_v41_20 :
    (after (start [0xB0] [] { Cpu.reset with a := 0x00, f := 0x30, b := 0x00 })).map (fun t => (t.cpu.f, t.cpu.pc, t.sched.mcycle)) =
      some (0x80, 0x0101, 1) := by
  decide +kernel

/-- V41.22: CP B, R272. -/
theorem test_v41_22 :
    (after (start [0xB8] [] { Cpu.reset with a := 0x3C, f := 0x00, b := 0x2F })).map (fun t => (t.cpu.f, t.cpu.pc, t.sched.mcycle)) =
      some (0x60, 0x0101, 1) := by
  decide +kernel

/-- V41.25: ADD A,n, R253. -/
theorem test_v41_25 :
    (after (start [0xC6, 0xFF] [] { Cpu.reset with a := 0x01, f := 0x00 })).map (fun t => (t.cpu.f, t.cpu.a, t.cpu.pc, t.sched.mcycle)) =
      some (0xB0, 0x00, 0x0102, 2) := by
  decide +kernel

/-- V41.33: ADD A,(HL), R252. -/
theorem test_v41_33 :
    (after (start [0x86] [(0xC000, 0xF0)] { Cpu.reset with a := 0x10, f := 0x00, h := 0xC0, l := 0x00 })).map (fun t => (t.cpu.f, t.cpu.a, t.cpu.pc, t.sched.mcycle)) =
      some (0x90, 0x00, 0x0101, 2) := by
  decide +kernel

/-- V41.34: INC A, R275. -/
theorem test_v41_34 :
    (after (start [0x3C] [] { Cpu.reset with a := 0xFF, f := 0x10 })).map (fun t => (t.cpu.f, t.cpu.a, t.cpu.pc, t.sched.mcycle)) =
      some (0xB0, 0x00, 0x0101, 1) := by
  decide +kernel

/-- V41.36: DEC A, R277. -/
theorem test_v41_36 :
    (after (start [0x3D] [] { Cpu.reset with a := 0x01, f := 0x10 })).map (fun t => (t.cpu.f, t.cpu.a, t.cpu.pc, t.sched.mcycle)) =
      some (0xD0, 0x00, 0x0101, 1) := by
  decide +kernel

/-- V41.39: INC (HL), R276. -/
theorem test_v41_39 :
    (after (start [0x34] [(0xC000, 0xFF)] { Cpu.reset with f := 0x00, h := 0xC0, l := 0x00 })).map (fun t => (t.cpu.f, t.cpu.pc, t.routerRead 0xC000, t.sched.mcycle)) =
      some (0xA0, 0x0101, 0x00, 3) := by
  decide +kernel

/-- V41.40: DEC (HL), R278. -/
theorem test_v41_40 :
    (after (start [0x35] [(0xC000, 0x00)] { Cpu.reset with f := 0x10, h := 0xC0, l := 0x00 })).map (fun t => (t.cpu.f, t.cpu.pc, t.routerRead 0xC000, t.sched.mcycle)) =
      some (0x70, 0x0101, 0xFF, 3) := by
  decide +kernel

/-- V41.41: DAA, R279. -/
theorem test_v41_41 :
    (after (start [0x27] [] { Cpu.reset with a := 0x7D, f := 0x00 })).map (fun t => (t.cpu.f, t.cpu.a, t.cpu.pc, t.sched.mcycle)) =
      some (0x00, 0x83, 0x0101, 1) := by
  decide +kernel

/-- V41.43: DAA, R279. -/
theorem test_v41_43 :
    (after (start [0x27] [] { Cpu.reset with a := 0x00, f := 0x30 })).map (fun t => (t.cpu.f, t.cpu.a, t.cpu.pc, t.sched.mcycle)) =
      some (0x10, 0x66, 0x0101, 1) := by
  decide +kernel

/-- V41.44: DAA, R279. -/
theorem test_v41_44 :
    (after (start [0x27] [] { Cpu.reset with a := 0x0C, f := 0x60 })).map (fun t => (t.cpu.f, t.cpu.a, t.cpu.pc, t.sched.mcycle)) =
      some (0x40, 0x06, 0x0101, 1) := by
  decide +kernel

/-- V41.47: CPL, R280. -/
theorem test_v41_47 :
    (after (start [0x2F] [] { Cpu.reset with a := 0x35, f := 0x90 })).map (fun t => (t.cpu.f, t.cpu.a, t.cpu.pc, t.sched.mcycle)) =
      some (0xF0, 0xCA, 0x0101, 1) := by
  decide +kernel

/-- V41.48: SCF, R281. -/
theorem test_v41_48 :
    (after (start [0x37] [] { Cpu.reset with f := 0xE0 })).map (fun t => (t.cpu.f, t.cpu.pc, t.sched.mcycle)) =
      some (0x90, 0x0101, 1) := by
  decide +kernel

/-- V41.49: CCF, R282. -/
theorem test_v41_49 :
    (after (start [0x3F] [] { Cpu.reset with f := 0x70 })).map (fun t => (t.cpu.f, t.cpu.pc, t.sched.mcycle)) =
      some (0x00, 0x0101, 1) := by
  decide +kernel

/-! ### 16-bit arithmetic (95_test_vectors.md, vectors V42) -/

/-- V42.1: INC BC, R292. -/
theorem test_v42_1 :
    (after (start [0x03] [] { Cpu.reset with f := 0xF0, b := 0xFF, c := 0xFF })).map (fun t => (t.cpu.f, t.cpu.b, t.cpu.c, t.cpu.pc, t.sched.mcycle)) =
      some (0xF0, 0x00, 0x00, 0x0101, 2) := by
  decide +kernel

/-- V42.2: DEC BC, R293. -/
theorem test_v42_2 :
    (after (start [0x0B] [] { Cpu.reset with f := 0x00, b := 0x00, c := 0x00 })).map (fun t => (t.cpu.f, t.cpu.b, t.cpu.c, t.cpu.pc, t.sched.mcycle)) =
      some (0x00, 0xFF, 0xFF, 0x0101, 2) := by
  decide +kernel

/-- V42.3: INC SP, R292. -/
theorem test_v42_3 :
    (after (start [0x33] [] { Cpu.reset with sp := 0xFFFF })).map (fun t => (t.cpu.f, t.cpu.sp, t.cpu.pc, t.sched.mcycle)) =
      some (0xB0, 0x0000, 0x0101, 2) := by
  decide +kernel

/-- V42.5: ADD HL,BC, R291. -/
theorem test_v42_5 :
    (after (start [0x09] [] { Cpu.reset with f := 0x80, b := 0x00, c := 0x01, h := 0x0F, l := 0xFF })).map (fun t => (t.cpu.f, t.cpu.h, t.cpu.l, t.cpu.pc, t.sched.mcycle)) =
      some (0xA0, 0x10, 0x00, 0x0101, 2) := by
  decide +kernel

/-- V42.8: ADD HL,BC, R291. -/
theorem test_v42_8 :
    (after (start [0x09] [] { Cpu.reset with f := 0x80, b := 0x70, c := 0x01, h := 0x8F, l := 0xFF })).map (fun t => (t.cpu.f, t.cpu.h, t.cpu.l, t.cpu.pc, t.sched.mcycle)) =
      some (0xB0, 0x00, 0x00, 0x0101, 2) := by
  decide +kernel

/-- V42.9: ADD HL,HL, R291. -/
theorem test_v42_9 :
    (after (start [0x29] [] { Cpu.reset with f := 0x00, h := 0x80, l := 0x00 })).map (fun t => (t.cpu.f, t.cpu.h, t.cpu.pc, t.sched.mcycle)) =
      some (0x10, 0x00, 0x0101, 2) := by
  decide +kernel

/-- V42.11: ADD SP,e, R294. -/
theorem test_v42_11 :
    (after (start [0xE8, 0x01] [] { Cpu.reset with f := 0xF0, sp := 0x00FF })).map (fun t => (t.cpu.f, t.cpu.sp, t.cpu.pc, t.sched.mcycle)) =
      some (0x30, 0x0100, 0x0102, 4) := by
  decide +kernel

/-- V42.13: ADD SP,e, R294. -/
theorem test_v42_13 :
    (after (start [0xE8, 0xFF] [] { Cpu.reset with f := 0x00, sp := 0x0001 })).map (fun t => (t.cpu.f, t.cpu.sp, t.cpu.pc, t.sched.mcycle)) =
      some (0x30, 0x0000, 0x0102, 4) := by
  decide +kernel

/-- V42.16: LD HL,SP+e, R295. -/
theorem test_v42_16 :
    (after (start [0xF8, 0xFE] [] { Cpu.reset with f := 0x00, sp := 0x000F })).map (fun t => (t.cpu.f, t.cpu.h, t.cpu.l, t.cpu.pc, t.sched.mcycle)) =
      some (0x30, 0x00, 0x0D, 0x0102, 3) := by
  decide +kernel

/-! ### Rotates, shifts, bits (95_test_vectors.md, vectors V43) -/

/-- V43.2: RLCA, R311. -/
theorem test_v43_2 :
    (after (start [0x07] [] { Cpu.reset with a := 0x00, f := 0x00 })).map (fun t => (t.cpu.f, t.cpu.pc, t.sched.mcycle)) =
      some (0x00, 0x0101, 1) := by
  decide +kernel

/-- V43.3: RRCA, R312. -/
theorem test_v43_3 :
    (after (start [0x0F] [] { Cpu.reset with a := 0x01, f := 0x00 })).map (fun t => (t.cpu.f, t.cpu.a, t.cpu.pc, t.sched.mcycle)) =
      some (0x10, 0x80, 0x0101, 1) := by
  decide +kernel

/-- V43.4: RLA, R313. -/
theorem test_v43_4 :
    (after (start [0x17] [] { Cpu.reset with a := 0x80, f := 0x00 })).map (fun t => (t.cpu.f, t.cpu.a, t.cpu.pc, t.sched.mcycle)) =
      some (0x10, 0x00, 0x0101, 1) := by
  decide +kernel

/-- V43.5: RRA, R314. -/
theorem test_v43_5 :
    (after (start [0x1F] [] { Cpu.reset with a := 0x01, f := 0x10 })).map (fun t => (t.cpu.f, t.cpu.a, t.cpu.pc, t.sched.mcycle)) =
      some (0x10, 0x80, 0x0101, 1) := by
  decide +kernel

/-- V43.6: CB RLC B, R315. -/
theorem test_v43_6 :
    (after (start [0xCB, 0x00] [] { Cpu.reset with f := 0x00, b := 0x85 })).map (fun t => (t.cpu.f, t.cpu.b, t.cpu.pc, t.sched.mcycle)) =
      some (0x10, 0x0B, 0x0102, 2) := by
  decide +kernel

/-- V43.8: CB RRC C, R317. -/
theorem test_v43_8 :
    (after (start [0xCB, 0x09] [] { Cpu.reset with f := 0x00, c := 0x01 })).map (fun t => (t.cpu.f, t.cpu.c, t.cpu.pc, t.sched.mcycle)) =
      some (0x10, 0x80, 0x0102, 2) := by
  decide +kernel

/-- V43.9: CB RL D, R319. -/
theorem test_v43_9 :
    (after (start [0xCB, 0x12] [] { Cpu.reset with f := 0x00, d := 0x80 })).map (fun t => (t.cpu.f, t.cpu.d, t.cpu.pc, t.sched.mcycle)) =
      some (0x90, 0x00, 0x0102, 2) := by
  decide +kernel

/-- V43.10: CB RR E, R321. -/
theorem test_v43_10 :
    (after (start [0xCB, 0x1B] [] { Cpu.reset with f := 0x10, e := 0x01 })).map (fun t => (t.cpu.f, t.cpu.e, t.cpu.pc, t.sched.mcycle)) =
      some (0x10, 0x80, 0x0102, 2) := by
  decide +kernel

/-- V43.11: CB SLA H, R323. -/
theorem test_v43_11 :
    (after (start [0xCB, 0x24] [] { Cpu.reset with f := 0x00, h := 0x80 })).map (fun t => (t.cpu.f, t.cpu.h, t.cpu.pc, t.sched.mcycle)) =
      some (0x90, 0x00, 0x0102, 2) := by
  decide +kernel

/-- V43.12: CB SRA L, R325. -/
theorem test_v43_12 :
    (after (start [0xCB, 0x2D] [] { Cpu.reset with f := 0x00, l := 0x81 })).map (fun t => (t.cpu.f, t.cpu.l, t.cpu.pc, t.sched.mcycle)) =
      some (0x10, 0xC0, 0x0102, 2) := by
  decide +kernel

/-- V43.13: CB SWAP A, R327. -/
theorem test_v43_13 :
    (after (start [0xCB, 0x37] [] { Cpu.reset with a := 0xF1, f := 0x10 })).map (fun t => (t.cpu.f, t.cpu.a, t.cpu.pc, t.sched.mcycle)) =
      some (0x00, 0x1F, 0x0102, 2) := by
  decide +kernel

/-- V43.15: CB SRL A, R329. -/
theorem test_v43_15 :
    (after (start [0xCB, 0x3F] [] { Cpu.reset with a := 0x01, f := 0x00 })).map (fun t => (t.cpu.f, t.cpu.a, t.cpu.pc, t.sched.mcycle)) =
      some (0x90, 0x00, 0x0102, 2) := by
  decide +kernel

/-- V43.16: CB BIT 7,A, R331. -/
theorem test_v43_16 :
    (after (start [0xCB, 0x7F] [] { Cpu.reset with a := 0x80, f := 0x10 })).map (fun t => (t.cpu.f, t.cpu.pc, t.sched.mcycle)) =
      some (0x30, 0x0102, 2) := by
  decide +kernel

/-- V43.18: CB BIT 0,(HL), R332. -/
theorem test_v43_18 :
    (after (start [0xCB, 0x46] [(0xC000, 0x01)] { Cpu.reset with f := 0x00, h := 0xC0, l := 0x00 })).map (fun t => (t.cpu.f, t.cpu.pc, t.sched.mcycle)) =
      some (0x20, 0x0102, 3) := by
  decide +kernel

/-- V43.19: CB RES 0,A, R333. -/
theorem test_v43_19 :
    (after (start [0xCB, 0x87] [] { Cpu.reset with a := 0xFF, f := 0x00 })).map (fun t => (t.cpu.f, t.cpu.a, t.cpu.pc, t.sched.mcycle)) =
      some (0x00, 0xFE, 0x0102, 2) := by
  decide +kernel

/-- V43.20: CB SET 7,A, R335. -/
theorem test_v43_20 :
    (after (start [0xCB, 0xFF] [] { Cpu.reset with a := 0x00, f := 0x00 })).map (fun t => (t.cpu.f, t.cpu.a, t.cpu.pc, t.sched.mcycle)) =
      some (0x00, 0x80, 0x0102, 2) := by
  decide +kernel

/-- V43.21: CB RLC (HL), R316. -/
theorem test_v43_21 :
    (after (start [0xCB, 0x06] [(0xC000, 0x80)] { Cpu.reset with f := 0x00, h := 0xC0, l := 0x00 })).map (fun t => (t.cpu.f, t.cpu.pc, t.routerRead 0xC000, t.sched.mcycle)) =
      some (0x10, 0x0102, 0x01, 4) := by
  decide +kernel

/-- V43.22: CB RES 7,(HL), R334. -/
theorem test_v43_22 :
    (after (start [0xCB, 0xBE] [(0xC000, 0xFF)] { Cpu.reset with f := 0xF0, h := 0xC0, l := 0x00 })).map (fun t => (t.cpu.f, t.cpu.pc, t.routerRead 0xC000, t.sched.mcycle)) =
      some (0xF0, 0x0102, 0x7F, 4) := by
  decide +kernel

/-- V43.23: CB SET 0,(HL), R336. -/
theorem test_v43_23 :
    (after (start [0xCB, 0xC6] [(0xC000, 0x00)] { Cpu.reset with f := 0x00, h := 0xC0, l := 0x00 })).map (fun t => (t.cpu.f, t.cpu.pc, t.routerRead 0xC000, t.sched.mcycle)) =
      some (0x00, 0x0102, 0x01, 4) := by
  decide +kernel

/-! ### Control transfers (95_test_vectors.md, vectors V44) -/

/-- V44.1: JP nn, R351. -/
theorem test_v44_1 :
    (after (start [0xC3, 0x50, 0x01] [] Cpu.reset)).map (fun t => (t.cpu.f, t.cpu.pc, t.sched.mcycle)) =
      some (0xB0, 0x0150, 4) := by
  decide +kernel

/-- V44.3: JP NZ,nn, R352. -/
theorem test_v44_3 :
    (after (start [0xC2, 0x50, 0x01] [] { Cpu.reset with f := 0x80 })).map (fun t => (t.cpu.f, t.cpu.pc, t.sched.mcycle)) =
      some (0x80, 0x0103, 3) := by
  decide +kernel

/-- V44.4: JP Z,nn, R352. -/
theorem test_v44_4 :
    (after (start [0xCA, 0x50, 0x01] [] { Cpu.reset with f := 0x80 })).map (fun t => (t.cpu.f, t.cpu.pc, t.sched.mcycle)) =
      some (0x80, 0x0150, 4) := by
  decide +kernel

/-- V44.7: JP HL, R353. -/
theorem test_v44_7 :
    (after (start [0xE9] [] { Cpu.reset with h := 0xC0, l := 0x00 })).map (fun t => (t.cpu.f, t.cpu.pc, t.sched.mcycle)) =
      some (0xB0, 0xC000, 1) := by
  decide +kernel

/-- V44.9: JR e, R354. -/
theorem test_v44_9 :
    (after (start [0x18, 0xFE] [] Cpu.reset)).map (fun t => (t.cpu.f, t.cpu.pc, t.sched.mcycle)) =
      some (0xB0, 0x0100, 3) := by
  decide +kernel

/-- V44.11: JR NZ,e, R355. -/
theorem test_v44_11 :
    (after (start [0x20, 0x10] [] { Cpu.reset with f := 0x80 })).map (fun t => (t.cpu.f, t.cpu.pc, t.sched.mcycle)) =
      some (0x80, 0x0102, 2) := by
  decide +kernel

/-- V44.14: JR C,e, R355. -/
theorem test_v44_14 :
    (after (start [0x38, 0x80] [] { Cpu.reset with f := 0x10 })).map (fun t => (t.cpu.f, t.cpu.pc, t.sched.mcycle)) =
      some (0x10, 0x0082, 3) := by
  decide +kernel

/-- V44.15: CALL nn, R356. -/
theorem test_v44_15 :
    (after (start [0xCD, 0x00, 0x20] [] { Cpu.reset with sp := 0xD000 })).map (fun t => (t.cpu.f, t.cpu.sp, t.cpu.pc, t.routerRead 0xCFFF, t.routerRead 0xCFFE, t.sched.mcycle)) =
      some (0xB0, 0xCFFE, 0x2000, 0x01, 0x03, 6) := by
  decide +kernel

/-- V44.17: CALL NZ,nn, R357. -/
theorem test_v44_17 :
    (after (start [0xC4, 0x00, 0x20] [] { Cpu.reset with f := 0x80, sp := 0xD000 })).map (fun t => (t.cpu.f, t.cpu.pc, t.sched.mcycle)) =
      some (0x80, 0x0103, 3) := by
  decide +kernel

/-- V44.18: CALL C,nn, R357. -/
theorem test_v44_18 :
    (after (start [0xDC, 0x00, 0x20] [] { Cpu.reset with f := 0x10, sp := 0xD000 })).map (fun t => (t.cpu.f, t.cpu.sp, t.cpu.pc, t.routerRead 0xCFFF, t.routerRead 0xCFFE, t.sched.mcycle)) =
      some (0x10, 0xCFFE, 0x2000, 0x01, 0x03, 6) := by
  decide +kernel

/-- V44.19: RET, R358. -/
theorem test_v44_19 :
    (after (start [0xC9] [(0xCFFE, 0x34), (0xCFFF, 0x12)] { Cpu.reset with sp := 0xCFFE })).map (fun t => (t.cpu.f, t.cpu.sp, t.cpu.pc, t.sched.mcycle)) =
      some (0xB0, 0xD000, 0x1234, 4) := by
  decide +kernel

/-- V44.20: RET NZ, R359. -/
theorem test_v44_20 :
    (after (start [0xC0] [(0xCFFE, 0x34), (0xCFFF, 0x12)] { Cpu.reset with f := 0x00, sp := 0xCFFE })).map (fun t => (t.cpu.f, t.cpu.sp, t.cpu.pc, t.sched.mcycle)) =
      some (0x00, 0xD000, 0x1234, 5) := by
  decide +kernel

/-- V44.21: RET NZ, R359. -/
theorem test_v44_21 :
    (after (start [0xC0] [(0xCFFE, 0x34), (0xCFFF, 0x12)] { Cpu.reset with f := 0x80, sp := 0xCFFE })).map (fun t => (t.cpu.f, t.cpu.pc, t.sched.mcycle)) =
      some (0x80, 0x0101, 2) := by
  decide +kernel

/-- V44.31: RST 38h, R362. -/
theorem test_v44_31 :
    (after (start [0xFF] [] { Cpu.reset with sp := 0xD000 })).map (fun t => (t.cpu.f, t.cpu.sp, t.cpu.pc, t.routerRead 0xCFFF, t.routerRead 0xCFFE, t.sched.mcycle)) =
      some (0xB0, 0xCFFE, 0x0038, 0x01, 0x01, 4) := by
  decide +kernel

/-! ### System instructions (95_test_vectors.md, vectors V45) -/

/-- V45.1: NOP, R380. -/
theorem test_v45_1 :
    (after (start [0x00] [] Cpu.reset)).map (fun t => (t.cpu.f, t.cpu.pc, t.sched.mcycle)) =
      some (0xB0, 0x0101, 1) := by
  decide +kernel

/-- V45.3: DI, R383. -/
theorem test_v45_3 :
    (after (start [0xF3] [] { Cpu.reset with ime := true })).map (fun t => (t.cpu.f, t.cpu.pc, t.cpu.ime, t.sched.mcycle)) =
      some (0xB0, 0x0101, false, 1) := by
  decide +kernel

/-- V45.4: EI, R384. -/
theorem test_v45_4 :
    (after (start [0xFB] [] Cpu.reset)).map (fun t => (t.cpu.f, t.cpu.pc, t.cpu.eiDelay, t.sched.mcycle)) =
      some (0xB0, 0x0101, 2, 1) := by
  decide +kernel

/-- V45.5: HALT, R381. -/
theorem test_v45_5 :
    (after (start [0x76] [] Cpu.reset)).map (fun t => (t.cpu.f, t.cpu.pc, t.cpu.halted, t.sched.mcycle)) =
      some (0xB0, 0x0101, true, 1) := by
  decide +kernel

/-- V45.6: HALT, R381. -/
theorem test_v45_6 :
    (after (withIe 0x01 (start [0x76] [] Cpu.reset))).map (fun t => (t.cpu.f, t.cpu.pc, t.cpu.haltBug, t.sched.mcycle)) =
      some (0xB0, 0x0101, true, 1) := by
  decide +kernel

/-! ### Undefined opcodes, STOP, interrupts and the halt bug (95_test_vectors.md, V45 and V60) -/

/-- V45.8: 0xD3 freezes the core with its opcode and address. -/
theorem test_v45_8 :
    (after (start [0xD3] [] Cpu.reset)).map (fun t => (t.cpu.frozen, t.sched.mcycle)) =
      some (some { opcode := 0xD3, addr := 0x0100 }, 1) := by
  decide +kernel

/-- V45.2: STOP skips its second byte and resets DIV. -/
theorem test_v45_2 :
    (after (start [0x10, 0x00] [] Cpu.reset)).map (fun t => (t.cpu.stopped, t.cpu.pc, t.readIo 0xFF04, t.sched.mcycle)) =
      some (true, 0x0102, 0x00, 1) := by
  decide +kernel

/-- V60.66: STOP with KEY1 bit 0 = 1 is refused. -/
theorem test_v60_66 :
    refusal { start [0x10, 0x00] [] Cpu.reset with key1 := true } = some (.unmodelled .doubleSpeed) := by
  decide +kernel

/-- V60.2: the lowest set line, line 1, is dispatched. -/
theorem test_v60_2 :
    (after (withIe 0x1F (withIf 0x1E (start [0x00] [] { Cpu.reset with ime := true, sp := 0xD000 })))).map
        (fun t => (t.cpu.pc, t.cpu.sp, t.cpu.ime, t.irq.flags, t.routerRead 0xCFFF, t.sched.mcycle)) =
      some (0x0048, 0xCFFE, false, 0x1C, 0x01, 5) := by
  decide +kernel

/-- V60.11, its last boundary: a dispatch with the halt bug pending pushes PC - 1. -/
theorem test_v60_11 :
    (after (withIe 0x04 (withIf 0x04 (start [] [] { Cpu.reset with pc := 0x0102, sp := 0xD000, eiDelay := 1, haltBug := true })))).map
        (fun t => (t.cpu.pc, t.cpu.haltBug, t.cpu.ime, t.routerRead 0xCFFF, t.routerRead 0xCFFE, t.sched.mcycle)) =
      some (0x0050, false, false, 0x01, 0x01, 5) := by
  decide +kernel

/-- V60.10: under the halt bug the opcode byte is read twice. -/
theorem test_v60_10 :
    (afterTwo (withIe 0x04 (withIf 0x04 (start [0x76, 0x06, 0x00] [] { Cpu.reset with a := 0x00 })))).map
        (fun t => (t.cpu.b, t.cpu.pc, t.cpu.haltBug, t.sched.mcycle)) =
      some (0x06, 0x0102, false, 3) := by
  decide +kernel

/-- V60.7: a pending line wakes a halted core, which fetches at once while IME is 0. -/
theorem test_v60_7 :
    (after (withIe 0x04 (withIf 0x04 (start [0x3C] [] { Cpu.reset with halted := true })))).map
        (fun t => (t.cpu.halted, t.cpu.a, t.cpu.pc, t.irq.flags)) =
      some (false, 0x02, 0x0101, 0x04) := by
  decide +kernel

/-- V60.12: a halted core with nothing pending is idle. -/
theorem test_v60_12 :
    (after (withIf 0x1F (start [] [] { Cpu.reset with halted := true }))).map (fun t => (t.cpu.halted, t.cpu.pc, t.sched.mcycle)) =
      some (true, 0x0100, 1) := by
  decide +kernel

/-! ### Router (95_test_vectors.md, V20) -/

/-- V20.2: the mirror and the banks of work RAM. -/
theorem test_v20_2 :
    let s := (State.reset.routerWrite 0xFF70 0x02).routerWrite 0xF000 0x77
    s.routerRead 0xD000 = 0x77 ∧ (s.routerWrite 0xFF70 0x01).routerRead 0xD000 = 0x00 := by
  decide +kernel

/-- V20.20 to V20.24: masks of IF, TAC, LY, the unusable range and P1. -/
theorem test_v20_masks :
    (State.reset.routerWrite 0xFF0F 0xFF).routerRead 0xFF0F = 0xFF ∧ (State.reset.routerWrite 0xFF07 0x00).routerRead 0xFF07 = 0xF8 ∧
      (State.reset.routerWrite 0xFF44 0x12).routerRead 0xFF44 = 0x00 ∧ (State.reset.routerWrite 0xFEA0 0xAA).routerRead 0xFEA0 = 0x00 ∧
      (State.reset.routerWrite 0xFF00 0x30).routerRead 0xFF00 = 0xFF := by
  decide +kernel

/-- V20.10 and V20.14: the first byte of a transfer, from 0xC100 and from its mirror. -/
theorem test_v20_10 :
    let s := displayOff (start [] [(0xC100, 0x5A)] Cpu.reset)
    ((s.routerWrite 0xFF46 0xC1).nextCycle.ram 0xFE00, (s.routerWrite 0xFF46 0xE1).nextCycle.ram 0xFE00) = (0x5A, 0x5A) := by
  decide +kernel

/-! ### Devices (95_test_vectors.md, V60) -/

/-- V60.43: TIMA overflows into TMA and requests line 2 in the same dot. -/
theorem test_v60_43 :
    let s : State := { State.reset with timer := { sys := 0xAB0F, tima := 0xFF, tma := 0x20, tac := 5, gate := true } }
    (s.timerDot.timer.tima, s.timerDot.irq.flags) = (0x20, 5) := by
  decide +kernel

/-- V60.44: a write to DIV that makes the gated bit fall increments TIMA. -/
theorem test_v60_44 :
    ({ State.reset with timer := { sys := 0xAB0F, tima := 0x10, tma := 0, tac := 5, gate := true } } : State).writeDiv.timer.tima = 0x11 := by
  decide +kernel

/-- V60.22: SCX = 7 and 10 candidates give T = 239. -/
theorem test_v60_22 :
    ({ Ppu.reset with scx := 7, candidates := List.replicate 10 { index := 0, y := 0, x := 0, tile := 0, attrs := 0 } } : Ppu).transferDots =
      239 := by
  decide +kernel

/-- V60.27: an entry with X = 0 is not selected, its twin with X = 8 is. -/
theorem test_v60_27 :
    let e : Sprite := { index := 0, y := 16, x := 8, tile := 0, attrs := 0 }
    e.selected 0 = true ∧ ({ e with x := 0 } : Sprite).selected 0 = false ∧ e.selected 7 = true ∧ e.selected 8 = false := by
  decide +kernel

/-- V60.35 and V60.38: pixel 0 at lineDot 92, index 3 through BGP = 0xE4. -/
theorem test_v60_35 :
    let s := start [] [(0x9800, 0x01), (0x8010, 0x80), (0x8011, 0x80)] Cpu.reset
    ({ s with ppu := { s.ppu with bgp := 0xE4, lineDot := 92, samples := [{ lcdc := 0x91, scx := 0, scy := 0 }] } } : State).emit.ppu.frame =
      [(0, 3)] := by
  decide +kernel

/-- V60.50: a start with the internal clock hands SB over at once; SC reads 0xFD. -/
theorem test_v60_50 :
    let s := (State.reset.routerWrite 0xFF01 0x41).routerWrite 0xFF02 0x81
    (s.serial.out, s.readIo 0xFF02) = ([0x41], 0xFD) := by
  decide +kernel

/-- V60.53 and V60.56: the host's scan of the stream. -/
theorem test_v60_53 :
    let scan (l : List Byte) : Option Verdict := (l.foldl (fun t v => Serial.scan Params.default v t) State.reset.serial).verdict
    scan [0x03, 0x05, 0x08, 0x0D, 0x15, 0x22] = some .pass ∧ scan [0x42, 0x42, 0x42, 0x42, 0x42, 0x42, 0x42] = some .fail ∧
      scan [0x41, 0x42, 0x43] = none := by
  decide +kernel

/-- V60.58: Down pressed with the direction pad selected. -/
theorem test_v60_58 :
    let s := (State.reset.routerWrite 0xFF00 0x20).buttonEvent { dot := 0, button := .down, pressed := true }
    (s.readIo 0xFF00, s.irq.flags) = (0xE7, 0x11) := by
  decide +kernel

/-- 70_reset_and_hazards.md R505: entry 0 is examined at reset against `initialRam`; R500: F's bits 7:4 are free. -/
theorem test_power_on :
    let s := State.powerOn { regs := { InitialRegs.default with flags := 0x5 }, ram := [(0xFE00, 0x10), (0xFE01, 0x08)], ppu := PpuInitial.default }
      Params.default (Cart.testCart [])
    (s.ppu.candidates.length, s.cpu.f, s.cpu.pc) = (1, 0x50, 0x0100) := by
  decide +kernel

/-- V70.5: the checksum of a header of zeros is 0xE7. -/
theorem test_v70_5 : checksumOk [(0x14D, 0xE7)] = true ∧ checksumOk [] = false := by decide +kernel

/-! ### Witnesses: for each statement with hypotheses, a concrete input that meets them, for each clause where there are several -/

/-- EncodeThenDecode, EveryOpcodeDecodes: whole instructions, STOP among them. -/
theorem witness_well_formed :
    Instr.wellFormed (.ldBcNn 0xFFFF) = true ∧ Instr.ldBcNn 0xFFFF ≠ .stop ∧ Instr.wellFormed .stop = true := by decide

/-- DecodeThenEncode: bytes that decode, STOP and another instruction. -/
theorem witness_decode :
    decode [0x06, 0x5A, 0xFF] = .ok (.ldBN 0x5A, [0xFF]) ∧ Instr.ldBN 0x5A ≠ .stop ∧ decode [0x10, 0xFF] = .ok (.stop, []) := by decide

/-- StepRunsDecodedInstruction: `ADD A,B` at 0x0100. -/
theorem witness_step :
    let s := start [0x80] [] Cpu.reset
    s.Live ∧ s.beginCycle.boundary.1 = .instruction ∧ decode s.beginCycle.boundary.2.fetchInstr.1 = .ok (.addAB, []) :=
  ⟨⟨rfl, rfl⟩, by decide +kernel, by decide +kernel⟩

/-- Fetching, AccessesFallInTheirCycle, CyclesKeep, WriteFrame, OneByteLoads, StackPointerLoads, PopPair, AluOperations, IncDecByte, Calls,
Returns, PrefixRunsSelected and the other statements over a running core with an empty queue and a canonical memory. -/
theorem witness_running :
    State.reset.sched.queue = [] ∧ State.reset.cpu.stopped = false ∧ Memory.wf Config.ramBlank State.reset.mem ∧
      State.reset.dma.active = false := by
  decide

/-- CyclesKeep: a key outside OAM. WriteFrame, OneByteStores, PushPair: a key that is not the addressed one; owners that are not I/O. -/
theorem witness_frame :
    ¬ inOam 0xC001 ∧ inOam 0xFE00 ∧ 0xC001 ≠ State.reset.ramKey (fold (0xC000 : Word).toNat) ∧ owner (fold (0xC000 : Word).toNat) ≠ .io ∧
      owner (fold (0xC000 : Word).toNat) ≠ .ie ∧ owner (fold (0xC000 : Word).toNat) = .workRam ∧ owner (fold (0xFFFE : Word).toNat) = .hram := by
  unfold inOam
  decide

/-- PushPair: a byte outside the two stored ones, and one of OAM with no DMA under way. -/
theorem witness_push :
    let s := State.reset
    let u := (s.setSp (s.cpu.sp - 1)).afterWrite (s.cpu.sp - 1) (hi 0x1234)
    (∀ k ∈ [0xC000, 0xFE00], k ≠ s.ramKey (fold (s.cpu.sp - 1).toNat) ∧ k ≠ u.ramKey (fold (s.cpu.sp - 2).toNat)) ∧
      s.dma.active = false ∧ u.dma.active = false := by
  decide +kernel

/-- FrozenStays. -/
theorem witness_frozen :
    let s := start [] [] { Cpu.reset with frozen := some { opcode := 0xD3, addr := 0x0100 } }
    s.cpu.frozen ≠ none ∧ s.cpu.stopped = false ∧ (after s).isSome = true := by
  decide +kernel

/-- DeferredEnable, LowPowerBoundary: stopped; halted with nothing pending; halted with a line pending. -/
theorem witness_low_power :
    State.reset.cpu.frozen = none ∧ (start [] [] { Cpu.reset with stopped := true }).cpu.stopped = true ∧
      (start [] [] { Cpu.reset with halted := true }).cpu.halted = true ∧ (start [] [] { Cpu.reset with halted := true }).pending = 0 ∧
      (withIe 1 (start [] [] { Cpu.reset with halted := true })).pending ≠ 0 := by
  decide +kernel

/-- BoundaryDispatchesLowest: line 4 alone with IME, line 0 with the last count of the EI delay; IME 0 with a line pending, IME 1 with none. -/
theorem witness_dispatch :
    (let s := withIe 0x1F (withIf 0x10 (start [] [] { Cpu.reset with ime := true }));
      s.cpu.frozen = none ∧ s.cpu.stopped = false ∧ s.cpu.ime = true ∧ s.pending.getLsbD Line.joypad.index = true ∧
        ∀ j < Line.joypad.index, s.pending.getLsbD j = false) ∧
      (let s := withIe 0x01 (withIf 0x1F (start [] [] { Cpu.reset with eiDelay := 1 }));
        s.cpu.eiDelay = 1 ∧ s.pending.getLsbD Line.vblank.index = true) ∧
      (let s := withIe 0x1F (start [] [] Cpu.reset);
        s.cpu.ime = false ∧ s.cpu.eiDelay ≠ 1 ∧ s.pending ≠ 0 ∧ s.cpu.halted = false) ∧
      (start [] [] { Cpu.reset with ime := true }).pending = 0 := by
  decide +kernel

/-- InterruptDispatch: with and without the halt bug. -/
theorem witness_interrupt :
    ∀ b : Bool, let s := start [] [] { Cpu.reset with haltBug := b }
      s.sched.queue = [] ∧ s.cpu.stopped = false ∧ s.cpu.haltBug = b := by
  decide +kernel

/-- OneByteLoads, OneByteStores: instructions of the two groups. -/
theorem witness_groups :
    LoadsAcc (.ldhAMemN 0xFF) (fun _ => pair 0xFF 0xFF) ∧ StoresByte (.ldMemHlN 0x5A) State.hl (fun _ => 0x5A) :=
  ⟨.high 0xFF, .imm 0x5A⟩

/-- Jumps, Calls, Returns: a condition that holds and one that does not. -/
theorem witness_conditions : CondRule .z 0x80 ∧ ¬ CondRule .z 0x00 ∧ CondRule .nc 0x00 ∧ ¬ CondRule .nc 0x10 := by
  unfold CondRule
  decide

/-- Rotates: the four accumulator forms. -/
theorem witness_rotates :
    (RotOp.rr, Instr.rra) ∈ [(RotOp.rlc, Instr.rlca), (.rrc, .rrca), (.rl, .rla), (.rr, .rra)] := by decide

/-- NopDiEiHalt: EI with IME and the delay 0, with IME 1, with the delay running; HALT with IME 1, with nothing pending, with the halt bug. -/
theorem witness_ei_halt :
    State.reset.cpu.ime = false ∧ State.reset.cpu.eiDelay = 0 ∧ (start [] [] { Cpu.reset with ime := true }).cpu.ime = true ∧
      (start [] [] { Cpu.reset with eiDelay := 1 }).cpu.eiDelay ≠ 0 ∧ State.reset.pending = 0 ∧
      (withIe 0x01 State.reset).pending ≠ 0 ∧ (withIe 0x01 State.reset).cpu.ime = false := by
  decide +kernel

/-- Stop: KEY1 bit 0 at both values, in a run that goes on. -/
theorem witness_stop :
    State.reset.key1 = false ∧ ({ State.reset with key1 := true } : State).key1 = true ∧ ({ State.reset with key1 := true } : State).Live :=
  ⟨rfl, rfl, rfl, rfl⟩

/-- ImeChanges, FlaglessKeepFlags: a step of DI, RETI, EI and NOP answers a next state. -/
theorem witness_exec :
    exec .nop State.reset = .next State.reset ∧ State.reset.cpu.ime = false ∧ Instr.nop ≠ .di ∧ Instr.nop ≠ .reti ∧ Instr.nop ≠ .ei ∧
      (start [] [] { Cpu.reset with ime := true }).cpu.ime = true ∧ Flagless .nop :=
  ⟨rfl, rfl, by decide, by decide, by decide, rfl, .nop⟩

/-- RouterWindows: both ends of the mirror, of video RAM in a transfer, of OAM under a DMA and in both searches, of the unusable range. -/
theorem witness_windows :
    ((0xE000 : Word).toNat = 0xE000 ∧ (0xFDFF : Word).toNat = 0xFDFF ∧ (0x8000 : Word).toNat = 0x8000 ∧ (0x9FFF : Word).toNat = 0x9FFF ∧
      (0xFE00 : Word).toNat = 0xFE00 ∧ (0xFE9F : Word).toNat = 0xFE9F ∧ (0xFEA0 : Word).toNat = 0xFEA0 ∧ (0xFEFF : Word).toNat = 0xFEFF) ∧
      (Ppu.reset.lcdOn = true ∧ ({ Ppu.reset with lineDot := 80 } : Ppu).mode = .lcdTransfer) ∧ Ppu.reset.mode = .oamSearch ∧
      (State.reset.startDma 0xC1).dma.active = true := by
  decide +kernel

/-- ReadAfterWrite: an address of each range, both banks' end, and another address of a plain range. -/
theorem witness_read_after_write :
    owner (fold (0xDFFF : Word).toNat) = .workRam ∧ owner (fold (0xFF80 : Word).toNat) = .hram ∧ owner (fold (0xFFFF : Word).toNat) = .ie ∧
      owner (fold (0x9FFF : Word).toNat) = .videoRam ∧ State.reset.vramBlocked = false ∧ owner (fold (0xFE9F : Word).toNat) = .oam ∧
      (displayOff State.reset).oamBlocked = false ∧ fold (0xC000 : Word).toNat ≠ fold (0xDFFF : Word).toNat ∧
      owner (fold (0xC000 : Word).toNat) ≠ .io := by
  decide +kernel

/-- IoMasks: unmapped addresses, both ends of the page and of the sound ranges, a write of SC that starts nothing and one that starts. -/
theorem witness_io :
    ioReg 0xFF03 = .unmapped ∧ ioReg 0xFF7F = .unmapped ∧ (0xFF00 : Word).toNat = 0xFF00 ∧ (0xFF7F : Word).toNat = 0xFF7F ∧
      ioReg 0xFF10 = .sound ∧ ioReg 0xFF3F = .sound ∧ Memory.wf Config.soundBlank State.reset.sound ∧
      State.reset.params.soundModel = .standard ∧ (0x02 : Byte).getLsbD 7 = false ∧ (0x81 : Byte).getLsbD 1 = false := by
  decide

/-- DmaCopies: the first byte of a transfer from the first and last pages of the ranges of sources, ROM, video RAM, external RAM, work RAM and its
mirror; and from 0xFE and 0xFF, where the byte is the model's free value, whatever it is. -/
theorem witness_dma :
    let s := displayOff (placeBytes [0x7A] 0x7F00 (start [0x21] [(0x8000, 0x30), (0x9F00, 0x31), (0xC000, 0x41), (0xDD00, 0x42)] Cpu.reset))
    Memory.wf Config.ramBlank s.mem ∧ (s.routerWrite 0xFF46 0x01).nextCycle.ram 0xFE00 = 0x21 ∧
      (s.routerWrite 0xFF46 0x7F).nextCycle.ram 0xFE00 = 0x7A ∧ (s.routerWrite 0xFF46 0x80).nextCycle.ram 0xFE00 = 0x30 ∧
      (s.routerWrite 0xFF46 0x9F).nextCycle.ram 0xFE00 = 0x31 ∧ (s.routerWrite 0xFF46 0xA0).nextCycle.ram 0xFE00 = 0xFF ∧
      (s.routerWrite 0xFF46 0xBF).nextCycle.ram 0xFE00 = 0xFF ∧ (s.routerWrite 0xFF46 0xC0).nextCycle.ram 0xFE00 = 0x41 ∧
      (s.routerWrite 0xFF46 0xDD).nextCycle.ram 0xFE00 = 0x42 ∧ (s.routerWrite 0xFF46 0xE0).nextCycle.ram 0xFE00 = 0x41 ∧
      (s.routerWrite 0xFF46 0xFD).nextCycle.ram 0xFE00 = 0x42 := by
  decide +kernel

/-- DmaCopies: a transfer from 0xFE or 0xFF draws a free value. -/
theorem witness_dma_free :
    let s := displayOff State.reset
    (s.routerWrite 0xFF46 0xFE).nextCycle.freeCount = 1 ∧ (s.routerWrite 0xFF46 0xFF).nextCycle.freeCount = 1 ∧
      (s.routerWrite 0xFF46 0xFE).dmaRead 0xFE00 = Config.dmaHighByte 0 ∧ (s.routerWrite 0xFF46 0xFF).dmaRead 0xFFFF = Config.dmaHighByte 0 :=
  ⟨by decide +kernel, by decide +kernel, rfl, rfl⟩

/-- TimerRule, StatInterrupt, SerialTransfer, ButtonEvents, OamSearch, PixelEmission: the parameters at their defaults; and the timer's invariant. -/
theorem witness_defaults :
    State.reset.params.timerModel = .standard ∧ State.reset.params.statIrq = .standard ∧ State.reset.params.serialEvent = .standard ∧
      State.reset.params.joypadEvent = .standard ∧ State.reset.params.transferDots = .standard ∧
      State.reset.params.spritePixel = .standard ∧ State.reset.params.bgSampling = .perLine ∧ State.reset.TimerInv :=
  ⟨rfl, rfl, rfl, rfl, rfl, rfl, rfl, fun _ => by decide +kernel⟩

/-- LineAdvance, ScanlineSum, OamSearch, PixelEmission: the last line and dot, the dots of entries 0, 1 and 39, the longest transfer, the full
list, the first pixel's dot. -/
theorem witness_picture :
    ({ Ppu.reset with ly := 153, lineDot := 455 } : Ppu).ly < 154 ∧ ({ Ppu.reset with ly := 153, lineDot := 455 } : Ppu).lineDot < 456 ∧
      Ppu.reset.lcdOn = true ∧ Ppu.reset.ly < 144 ∧ Ppu.reset.lineDot = 0 ∧ ({ Ppu.reset with lineDot := 2 } : Ppu).lineDot = 2 * 1 ∧
      ({ Ppu.reset with lineDot := 78 } : Ppu).lineDot = 2 * 39 ∧ ({ Ppu.reset with lineDot := 79 } : Ppu).lineDot % 2 = 1 ∧
      ({ Ppu.reset with transfer := 239 } : Ppu).transfer ≤ 376 ∧
      (List.replicate 10 ({ index := 0, y := 0, x := 1, tile := 0, attrs := 0 } : Sprite)).length ≤ 10 ∧
      Memory.wf Config.frameBlank Ppu.reset.frame ∧ 172 ≤ Ppu.reset.transfer ∧ ({ Ppu.reset with ly := 144 } : Ppu).ly ≥ 144 ∧
      ({ Ppu.reset with ly := 143, lineDot := 80 } : Ppu).ly < 144 ∧ ({ Ppu.reset with ly := 143, lineDot := 80 } : Ppu).lineDot = 80 ∧
      80 < ({ Ppu.reset with lineDot := 92 } : Ppu).lineDot ∧ ({ Ppu.reset with lineDot := 92 } : Ppu).lineDot = 80 + Ppu.reset.transfer - 160 + 0 ∧
      ({ Ppu.reset with lcdc := 0x91 } : Ppu).lcdc.getLsbD 1 = false := by
  decide +kernel

/-- 60_exceptions.md R455: among equal X the lower OAM index wins, whose palette is OBP1 and which lies behind the background. -/
theorem test_sprite_wins :
    let s := start [] [(0x8010, 0x80), (0x8011, 0x80), (0x8020, 0x80)] Cpu.reset
    let e : Sprite := { index := 0, y := 16, x := 8, tile := 2, attrs := 0x90 }
    ({ s with ppu := { s.ppu with lcdc := 0x93, candidates := [e, { e with index := 1, tile := 1, attrs := 0 }] } } : State).spritePixel 0 =
      some { index := 1, obp1 := true, front := false } := by
  decide +kernel

/-- PixelEmission: a candidate that covers its line and wins at a column over a later one; a column where both are transparent; the sampled
registers. -/
theorem witness_sprite :
    let s := start [] [(0x8010, 0x80), (0x8011, 0x80)] Cpu.reset
    let e : Sprite := { index := 0, y := 16, x := 8, tile := 1, attrs := 0 }
    let d : Sprite := { e with index := 1 }
    let t : State := { s with ppu := { s.ppu with lcdc := 0x93, candidates := [e, d], samples := [s.ppu.bgSample] } }
    SpriteWins t e 0 ∧ t.ppu.lcdc.getLsbD 1 = true ∧ t.ppu.candidates.Pairwise (fun d e => d.index < e.index) ∧
      (∀ e ∈ t.ppu.candidates, t.spriteIndex e 1 = 0) ∧ e.y.toNat ≤ t.ppu.ly + 16 ∧ t.ppu.ly + 16 < e.y.toNat + 8 ∧
      t.ppu.samples = s.ppu.bgSample :: [] := by
  unfold SpriteWins
  decide +kernel

/-- DisplayOff, SerialTransfer, RefusalsEndTheRun: the written bytes, and a state with the display off. HalfCarryLaws: an F with C = 0. -/
theorem witness_written_bytes :
    (0x11 : Byte).getLsbD 7 = false ∧ (State.reset.writeIo 0xFF40 0x11).dma.active = false ∧ (0x81 : Byte).getLsbD 7 = true ∧
      (0x81 : Byte).getLsbD 1 = false ∧ (0x81 : Byte).getLsbD 0 = true ∧ (0x80 : Byte).getLsbD 0 = false ∧ (0x83 : Byte).getLsbD 1 = true ∧
      (displayOff State.reset).ppu.lcdOn = false ∧ (0x91 : Byte).getLsbD 7 = true ∧ (0xE0 : Byte).getLsbD 4 = false := by
  decide +kernel

/-- SerialTransfer: a transfer whose dot has come, and none. -/
theorem witness_serial_due :
    let s : State := { State.reset with serial := { State.reset.serial with due := [0] } }
    s.dot ∈ s.serial.due ∧ State.reset.dot ∉ State.reset.serial.due := by
  decide +kernel

/-- ButtonEvents: a press and a release, and the buttons released before. -/
theorem witness_button :
    ({ dot := 0, button := .start, pressed := true } : ButtonEvent).pressed = true ∧
      ({ dot := 0, button := .start, pressed := false } : ButtonEvent).pressed = false ∧
      State.reset.joypad.dirs = 0xF ∧ State.reset.joypad.acts = 0xF := by
  decide

/-- ResetInvariants: values of the parameters other than the defaults. -/
theorem witness_initial :
    let init : Initial :=
      { regs := { InitialRegs.default with flags := 0xF, sp := 0xDFFF }, ram := [(0xC000, 0x12)]
        ppu :=
          { PpuInitial.default with
            ly := 143, lineDot := 78, transfer := 376
            candidates := [{ index := 0, y := 159, x := 1, tile := 0, attrs := 0 }, { index := 39, y := 159, x := 1, tile := 0, attrs := 0 }] } }
    Memory.wf Config.ramBlank init.ram ∧ Memory.wf Config.frameBlank init.ppu.frame ∧ Memory.wf Config.imageBlank (Cart.testCart []).image ∧
      init.ppu.candidates.length ≤ 10 ∧ 172 ≤ init.ppu.transfer ∧ init.ppu.transfer ≤ 376 ∧ init.ppu.gate = false ∧
      init.ppu.candidates.Pairwise (fun d e => d.index < e.index) ∧ init.ppu.ly.val < 144 ∧
      (∀ e ∈ init.ppu.candidates, 2 * e.index ≤ init.ppu.lineDot.val) ∧ init.ppu.lineDot ≠ 0 ∧ PpuInitial.default.lineDot = 0 ∧
      PpuInitial.default.candidates = [] := by
  decide

/-- RefusalsEndTheRun: a run with each mark, KEY1 bit 0 set, and the registers that enable the window and tall sprites. -/
theorem witness_marks :
    ({ State.reset with refused := some .window } : State).fatal = none ∧ ({ State.reset with refused := some .window } : State).refused = some .window ∧
      ({ State.reset with fatal := some "m" } : State).fatal = some "m" ∧ State.reset.Live ∧ ({ State.reset with key1 := true } : State).key1 = true ∧
      (0xB1 : Byte).getLsbD 5 = true ∧
      (0x97 : Byte).getLsbD 2 = true ∧ (0x97 : Byte).getLsbD 1 = true :=
  ⟨rfl, rfl, rfl, ⟨rfl, rfl⟩, rfl, rfl, rfl, rfl⟩

/-- StepKeepsMemory, StepKeepsBoundary, StepKeepsCore, StepKeepsDevices: a state that meets every invariant, and its step goes on. -/
theorem witness_invariants :
    let s := start [0xC5] [] Cpu.reset
    s.memoriesWf ∧ s.AtBoundary ∧ s.FlagsClean ∧ s.ControlInv ∧ s.PictureInv ∧ s.DmaInv ∧ s.TimerInv ∧ (after s).isSome = true :=
  ⟨by decide +kernel, ⟨rfl, rfl⟩, by unfold State.FlagsClean; decide +kernel, ⟨by decide +kernel, by decide +kernel, by decide +kernel⟩,
    ⟨by decide +kernel, by decide +kernel, by decide +kernel, by decide +kernel, by decide +kernel, .nil, fun _ _ e h => nomatch h⟩,
    ⟨by decide +kernel, by decide +kernel⟩, fun _ => by decide +kernel, by decide +kernel⟩

end Sys2Proof.Tests
end

/-! SUPPORT. The statements on fetching (00_scope.md R20; 60_exceptions.md R420) and on the reset procedure (70_reset_and_hazards.md R501), with
the equations of the fetches and of the reset that they rest on. -/

namespace Sys2Proof.Machine

/-! ### Fetching -/

/-- A read puts the router's answer into the latch and marks what the cartridge reports (20_memory.md R121, R168). -/
theorem perform_read (c : Nat) (a : Word) (s : State) :
    s.perform { cycle := c, addr := a, dir := .read } =
      { State.markFatal (s.readFatal a) s with sched := { s.sched with latch := s.routerRead a } } :=
  markFatal_withSched (s.readFatal a) { s.sched with latch := s.routerRead a } s

/-- A read at the next offset, with nothing else scheduled, is `afterRead`. -/
theorem readNext_eq_afterRead (a : Word) (s : State) (h : s.sched.queue = []) : s.readNext a = s.afterRead a :=
  readNext_eq a s h

/-- The opcode fetch, field by field; `remaining` is what the cycle table leaves after this cycle (10_state.md R57). -/
theorem fetchOpcode_eq (s : State) (h : s.sched.queue = []) :
    s.fetchOpcode =
      { State.markFatal (s.readFatal s.cpu.pc) s with
        cpu := { s.cpu with pc := if s.cpu.haltBug then s.cpu.pc else s.cpu.pc + 1, haltBug := false }
        sched :=
          { s.sched with
            latch := s.routerRead s.cpu.pc
            instrAddr := s.cpu.pc
            remaining := primaryCycles (s.routerRead s.cpu.pc) s.cpu.f - 1 } } := by
  unfold State.fetchOpcode
  rw [schedule_service _ _ _ h, perform_read]
  simp only [State.mapCpu, State.latch, Cpu.opcodeFetched, markFatal_cpu]

/-- The opcode is the byte the router answers at PC. -/
theorem fetchOpcode_latch (s : State) (h : s.sched.queue = []) : s.fetchOpcode.latch = s.routerRead s.cpu.pc := by
  rw [fetchOpcode_eq s h]
  rfl

/-- A machine cycle keeps PC. -/
theorem nextCycle_pc (s : State) : s.nextCycle.cpu.pc = s.cpu.pc := by rw [nextCycle_cpu s]

/-- A later fetch is a read at PC in the next machine cycle, after which PC has advanced (00_scope.md R20). -/
theorem fetchNext_eq (s : State) (h : s.sched.queue = []) :
    s.fetchNext = { s.afterRead s.cpu.pc with cpu := { s.nextCycle.cpu with pc := s.cpu.pc + 1 } } := by
  unfold State.fetchNext
  rw [readNext_eq_afterRead _ s h]
  simp only [State.setPc, afterRead_cpu, nextCycle_pc]

/-- `fetchMore n` fetches n bytes. -/
@[simp] theorem fetchMore_length (n : Nat) (s : State) : (fetchMore n s).1.length = n := by
  induction n generalizing s with
  | zero => rfl
  | succ n ih => simp [fetchMore, ih]

/-- Every first byte asks for itself at least. -/
theorem fetchedBytes_pos (op : Byte) : 0 < fetchedBytes op := by
  unfold fetchedBytes
  split <;> decide

/-- An instruction's bytes begin with its opcode. -/
theorem fetchInstr_head? (s : State) : s.fetchInstr.1.head? = some s.fetchOpcode.latch := rfl

/-- As many bytes are fetched as the opcode says (30_encoding.md R171). -/
theorem fetchInstr_length (s : State) : s.fetchInstr.1.length = fetchedBytes s.fetchOpcode.latch := by
  have hpos := fetchedBytes_pos s.fetchOpcode.latch
  simp only [State.fetchInstr, List.length_cons, fetchMore_length]
  omega

/-- Settles O6, from the equations of the two fetches and the count of the fetched bytes. -/
theorem fetching : Obligations.Fetching := by
  unfold Obligations.Fetching
  intro s h
  rw [fetchInstr_length, fetchInstr_head?, fetchOpcode_latch s h]
  exact ⟨⟨_, fetchOpcode_eq s h⟩, fetchNext_eq s h, rfl, rfl⟩

/-! ### Reset -/

/-- Replace the candidates of the line. -/
def State.withCandidates (cs : List Sprite) (s : State) : State := { s with ppu := { s.ppu with candidates := cs } }

/-- Examining an entry changes nothing, or appends that entry to a list that is not full (60_exceptions.md R448). -/
theorem examine_cases (i : Nat) (s : State) :
    s.examine i = s ∨
      s.ppu.candidates.length < 10 ∧ s.examine i = s.withCandidates (s.ppu.candidates ++ [s.oamEntry i]) := by
  unfold State.examine
  dsimp only
  split
  case isTrue h =>
    rw [Bool.and_eq_true, decide_eq_true_iff] at h
    exact .inr ⟨h.1, rfl⟩
  case isFalse => exact .inl rfl

/-- The reset procedure examines no entry, or selects entry 0 at the start of a line (70_reset_and_hazards.md R505). -/
theorem powerOn_cases (init : Initial) (params : Params) (cart : Cart) :
    State.powerOn init params cart = State.resetWith init params cart ∨
      init.ppu.lineDot = 0 ∧
        State.powerOn init params cart =
          (State.resetWith init params cart).withCandidates
            (init.ppu.candidates ++ [(State.resetWith init params cart).oamEntry 0]) := by
  unfold State.powerOn State.examineAtReset
  split
  case isTrue h =>
    rw [Bool.and_eq_true, beq_iff_eq] at h
    obtain e | ⟨-, e⟩ := examine_cases 0 (State.resetWith init params cart)
    · exact .inl e
    · exact .inr ⟨Fin.ext h.2, e⟩
  case isFalse => exact .inl rfl

/-- What 60_exceptions.md R448 asks of a candidate list in a dot of a line: room for ten, table order, and on a visible line each entry's dot
has come. -/
structure CandidatesFit (ly lineDot : Nat) (cs : List Sprite) : Prop where
  room : cs.length ≤ 10
  ordered : cs.Pairwise (fun d e => d.index < e.index)
  examined : ly < 144 → ∀ e ∈ cs, 2 * e.index ≤ lineDot

/-- Entry 0 alone fits everywhere. -/
theorem candidatesFit_singleton {ly lineDot : Nat} {e : Sprite} (h : e.index = 0) : CandidatesFit ly lineDot [e] where
  room := by simp
  ordered := List.pairwise_singleton _ _
  examined := by simp [h]

/-- The reset procedure gives `resetWith` with a candidate list that fits, where the parameter's own list fits and is empty in dot 0. -/
theorem powerOn_eq (init : Initial) (params : Params) (cart : Cart)
    (hfit : CandidatesFit init.ppu.ly init.ppu.lineDot init.ppu.candidates) (hempty : init.ppu.lineDot = 0 → init.ppu.candidates = []) :
    ∃ cs, State.powerOn init params cart = (State.resetWith init params cart).withCandidates cs ∧
      CandidatesFit init.ppu.ly init.ppu.lineDot cs := by
  obtain e | ⟨h0, e⟩ := powerOn_cases init params cart
  · exact ⟨_, e, hfit⟩
  · refine ⟨_, e, ?_⟩
    rw [hempty h0]
    exact candidatesFit_singleton rfl

/-- The pipeline's invariant after reset is that the candidates fit and the transfer length is in its range. -/
theorem resetWith_pictureInv (init : Initial) (params : Params) (cart : Cart) (cs : List Sprite)
    (hfit : CandidatesFit init.ppu.ly init.ppu.lineDot cs) (hleast : 172 ≤ init.ppu.transfer) (hmost : init.ppu.transfer ≤ 376) :
    ((State.resetWith init params cart).withCandidates cs).PictureInv where
  line := init.ppu.ly.isLt
  dot := init.ppu.lineDot.isLt
  candidates := hfit.room
  least := hleast
  most := hmost
  ordered := hfit.ordered
  examined := fun _ => hfit.examined

/-- F after reset: the flags of `initialRegs` in bits 7:4 and 0 below (10_state.md R44). -/
theorem cpu_f_toNat (r : InitialRegs) : r.cpu.f.toNat = 16 * r.flags.toNat := by
  have h : r.flags.toNat < 16 := r.flags.isLt
  simp only [InitialRegs.cpu, BitVec.toNat_ofNat]
  omega

/-- No memory but those of the parameters holds a byte after reset. -/
theorem resetWith_memoriesWf (init : Initial) (params : Params) (cart : Cart) (cs : List Sprite)
    (hram : Memory.wf Config.ramBlank init.ram) (hframe : Memory.wf Config.frameBlank init.ppu.frame)
    (himage : Memory.wf Config.imageBlank cart.image) :
    ((State.resetWith init params cart).withCandidates cs).memoriesWf :=
  have hnil (b : Byte) : Memory.wf b [] := ⟨.nil, nofun⟩
  ⟨hram, hnil _, himage, hframe, hnil _⟩

/-- The core's control bits after reset are all clear. -/
theorem resetWith_controlInv (init : Initial) (params : Params) (cart : Cart) (cs : List Sprite) :
    ((State.resetWith init params cart).withCandidates cs).ControlInv where
  delay := Nat.zero_le 2
  armed := fun _ => rfl
  lowPower := fun _ => rfl

/-- The timer's gated bit after reset is 0, since TAC is, so a stored gate bit of 0 is the gated bit (60_exceptions.md R460). -/
theorem resetWith_timerInv (init : Initial) (params : Params) (cart : Cart) (cs : List Sprite) (hgate : init.ppu.gate = false) :
    ((State.resetWith init params cart).withCandidates cs).TimerInv := by
  intro _
  simp [State.withCandidates, State.resetWith, Timer.gated, hgate]

/-- With the defaults entry 0 of the all-zero OAM is not selected, so the examination changes nothing (70_reset_and_hazards.md R505). -/
theorem powerOn_default : State.powerOn Initial.default Params.default (Cart.testCart []) = State.reset := rfl

/-- Settles O56: the reset procedure is `resetWith` with a candidate list that fits, and the invariants of that state are read off its fields. -/
theorem resetInvariants : Obligations.ResetInvariants := by
  unfold Obligations.ResetInvariants
  refine ⟨powerOn_default, ?_⟩
  intro init params cart hram hframe himage hroom hleast hmost hgate hordered hexamined hempty
  obtain ⟨cs, e, hfit⟩ := powerOn_eq init params cart ⟨hroom, hordered, hexamined⟩ hempty
  have hf := cpu_f_toNat init.regs
  have hclean : init.regs.cpu.f.toNat % 16 = 0 := by omega
  dsimp only
  rw [e]
  exact ⟨⟨rfl, rfl⟩, ⟨rfl, rfl⟩, resetWith_memoriesWf init params cart cs hram hframe himage, hclean,
    resetWith_controlInv init params cart cs, resetWith_pictureInv init params cart cs hfit hleast hmost,
    ⟨Nat.zero_le 160, nofun⟩, resetWith_timerInv init params cart cs hgate, rfl, hf, rfl, rfl, rfl, rfl, rfl, rfl⟩

end Sys2Proof.Machine

/-! SUPPORT. The statements on the core's state (10_state.md). Time: the machine cycles of an instruction after its last fetch, and that every
step ends at a boundary after exactly the cycles of the table. F and the control bits: which instructions write them, and that every step
keeps them legal. Then the frozen core, push and pop, the register file, the reset values and the I/O page. -/

namespace Sys2Proof.Machine

/-! ### The machine cycles between two scheduling states -/

/-- n machine cycles have passed with the queue as it was: `mcycle` counted each, `remaining` lost each (10_state.md R57, R58). -/
structure Sched.Spends (n : Nat) (c d : Sched) : Prop where
  queue : d.queue = c.queue
  mcycle : d.mcycle = c.mcycle + n
  remaining : d.remaining = c.remaining - n

theorem Sched.Spends.refl (c : Sched) : Sched.Spends 0 c c := ⟨rfl, rfl, rfl⟩

theorem Sched.Spends.trans {m n : Nat} {c d e : Sched} (h : Sched.Spends m c d) (k : Sched.Spends n d e) :
    Sched.Spends (m + n) c e := by
  obtain ⟨hq, hm, hr⟩ := h
  obtain ⟨kq, km, kr⟩ := k
  exact ⟨kq.trans hq, by omega, by omega⟩

theorem nextCycle_spends (s : State) : Sched.Spends 1 s.sched s.nextCycle.sched := by
  rw [nextCycle_sched]
  exact ⟨rfl, rfl, rfl⟩

theorem afterRead_spends (a : Word) (s : State) : Sched.Spends 1 s.sched (s.afterRead a).sched := by
  unfold State.afterRead
  rw [markFatal_sched]
  obtain ⟨hq, hm, hr⟩ := nextCycle_spends s
  exact ⟨hq, hm, hr⟩

theorem readNext_spends (a : Word) (s : State) (h : s.sched.queue = []) : Sched.Spends 1 s.sched (s.readNext a).sched := by
  rw [readNext_eq_afterRead a s h]
  exact afterRead_spends a s

theorem writeNext_spends (a : Word) (v : Byte) (s : State) (h : s.sched.queue = []) :
    Sched.Spends 1 s.sched (s.writeNext a v).sched := by
  rw [writeNext_eq a v s h, routerWrite_sched]
  exact nextCycle_spends s

/-- A read and a write in two successive cycles, with a change of registers between them. -/
theorem readWrite_spends (a b : Word) (v : Byte) (s t : State) (h : s.sched.queue = []) (ht : t.sched = (s.readNext a).sched) :
    Sched.Spends 2 s.sched (t.writeNext b v).sched := by
  have hr := readNext_spends a s h
  rw [← ht] at hr
  exact hr.trans (writeNext_spends b v t (hr.queue.trans h))

theorem pushWord_spends (w : Word) (s : State) (h : s.sched.queue = []) : Sched.Spends 2 s.sched (s.pushWord w).sched := by
  have h1 := writeNext_spends (s.cpu.sp - 1) (hi w) (s.setSp (s.cpu.sp - 1)) h
  rw [setSp_sched] at h1
  unfold State.pushWord
  simp only [setSp_cpu]
  generalize (s.setSp (s.cpu.sp - 1)).writeNext (s.cpu.sp - 1) (hi w) = s1 at h1 ⊢
  have h2 := writeNext_spends (s1.cpu.sp - 1) (lo w) (s1.setSp (s1.cpu.sp - 1)) (h1.queue.trans h)
  rw [setSp_sched] at h2
  exact h1.trans h2

theorem popWord_spends (s : State) (h : s.sched.queue = []) : Sched.Spends 2 s.sched s.popWord.2.sched := by
  have h1 := readNext_spends s.cpu.sp s h
  unfold State.popWord
  simp only [setSp_cpu, setSp_sched]
  generalize s.readNext s.cpu.sp = s1 at h1 ⊢
  have h2 := readNext_spends (s1.cpu.sp + 1) (s1.setSp (s1.cpu.sp + 1)) (h1.queue.trans h)
  rw [setSp_sched] at h2
  exact h1.trans h2

theorem returnNow_spends (s : State) (h : s.sched.queue = []) : Sched.Spends 3 s.sched s.returnNow.sched := by
  unfold State.returnNow State.internal
  dsimp only
  rw [setPc_sched]
  exact (popWord_spends s h).trans (nextCycle_spends s.popWord.2)

theorem call_spends (nn : Word) (s : State) (h : s.sched.queue = []) : Sched.Spends 3 s.sched (s.call nn).sched := by
  unfold State.call State.internal
  dsimp only
  rw [setPc_sched]
  exact (nextCycle_spends s).trans (pushWord_spends _ s.nextCycle ((nextCycle_queue s).trans h))

/-- A dispatch: an internal cycle, the push, an internal cycle (60_exceptions.md R410). -/
theorem takeInterrupt_spends (k : Line) (s : State) (h : s.sched.queue = []) :
    Sched.Spends 4 { s.sched with remaining := 4 } (s.takeInterrupt k).sched := by
  have h1 := nextCycle_spends (s.acknowledge k)
  unfold State.takeInterrupt State.internal
  rw [setPc_sched]
  generalize (s.acknowledge k).nextCycle = s1 at h1 ⊢
  exact (h1.trans (pushWord_spends s.dispatchReturn s1 (h1.queue.trans h))).trans (nextCycle_spends _)

/-! ### The machine cycles of an instruction after its last fetch -/

/-- The machine cycles of a shape after the last fetched byte, its condition holding; the bare 0xCB, whose cycles its second byte decides, has
none of its own. -/
def Shape.fullCycles : Shape → Option Nat
  | .copyReg _ _ | .setReg _ _ | .setPair _ _ => some 0
  | .loadReg _ | .storeReg _ | .storeImm _ | .loadAcc _ | .storeAcc _ | .loadAccHl _ | .storeAccHl _ => some 1
  | .storeSp _ => some 2
  | .loadSpHl => some 1
  | .pushPair _ => some 3
  | .popPair _ => some 2
  | .aluReg _ _ | .aluImm _ _ | .incReg _ | .decReg _ => some 0
  | .aluMem _ => some 1
  | .incMem | .decMem => some 2
  | .decimalAdjust | .complementAcc | .setCarry | .complementCarry => some 0
  | .addHl _ | .incPair _ | .decPair _ | .loadHlSp _ => some 1
  | .addSp _ => some 2
  | .rotAcc _ | .rotReg _ _ | .testBitReg _ _ | .resBitReg _ _ | .setBitReg _ _ => some 0
  | .testBitMem _ => some 1
  | .rotMem _ | .resBitMem _ | .setBitMem _ => some 2
  | .jump _ | .jumpIf _ _ | .jumpRelative _ | .jumpRelativeIf _ _ => some 1
  | .jumpHl => some 0
  | .call _ | .callIf _ _ | .restart _ | .returnNow | .returnFromInterrupt => some 3
  | .returnIf _ => some 4
  | .nothing | .enterHalt | .enterStop | .disableInterrupts | .enableInterrupts | .raiseFrozen _ => some 0
  | .prefixCb => none

/-- The cycles a shape does not use because its condition fails (70_reset_and_hazards.md R520). -/
def Shape.untaken (x : Shape) (f : Byte) : Nat :=
  match x with
  | .jumpIf k _ | .jumpRelativeIf k _ => if condHolds k f then 0 else 1
  | .callIf k _ | .returnIf k => if condHolds k f then 0 else 3
  | _ => 0

/-- A condition never takes away more cycles than the instruction has. -/
theorem Shape.untaken_le {x : Shape} {n : Nat} (h : x.fullCycles = some n) (f : Byte) : x.untaken f ≤ n := by
  unfold Shape.untaken
  split
  case h_5 => exact Nat.zero_le n
  all_goals
    obtain rfl := Option.some.inj h
    split <;> decide

theorem enterStop_sched (s : State) : s.enterStop.sched = s.sched := by
  unfold State.enterStop
  dsimp only
  split
  · rw [markRefused_sched, setPc_sched]
  · obtain ⟨t, q, e⟩ := writeDiv_eq ((s.setPc (s.cpu.pc + 1)).mapCpu fun p => { p with stopped := true })
    rw [e, mapCpu_sched, setPc_sched]

theorem enterHalt_sched (s : State) : s.enterHalt.sched = s.sched := by
  unfold State.enterHalt
  split <;> rfl

theorem enableInterrupts_sched (s : State) : s.enableInterrupts.sched = s.sched := by
  unfold State.enableInterrupts
  split <;> rfl

/-- What is spent where a condition decides between an effect and none. -/
theorem Sched.Spends.ite {p : Prop} [Decidable p] {n : Nat} {s t : State} (h : Sched.Spends n s.sched t.sched) :
    Sched.Spends (n - if p then 0 else n) s.sched (if p then t else s).sched := by
  split
  · exact h
  · rw [Nat.sub_self]
    exact .refl _

/-- `RET cc` spends its internal cycle "taken or not" (44_control.md R359). -/
theorem returnIf_spends (k : Cond) (s : State) (h : s.sched.queue = []) :
    Sched.Spends (4 - if condHolds k s.cpu.f then 0 else 3) s.sched (s.returnIf k).sched := by
  have h1 := nextCycle_spends s
  unfold State.returnIf State.internal
  dsimp only
  rw [nextCycle_f]
  split
  · exact h1.trans (returnNow_spends _ (h1.queue.trans h))
  · exact h1

theorem storeSp_spends (a : Word) (s : State) (h : s.sched.queue = []) : Sched.Spends 2 s.sched (s.storeSp a).sched := by
  have h1 := writeNext_spends a (lo s.cpu.sp) s h
  unfold State.storeSp
  dsimp only
  generalize s.writeNext a (lo s.cpu.sp) = s1 at h1 ⊢
  exact h1.trans (writeNext_spends _ _ s1 (h1.queue.trans h))

theorem addSp_spends (e : Byte) (s : State) : Sched.Spends 2 s.sched (s.addSp e).sched := by
  unfold State.addSp State.internal
  rw [setFlags_sched, setSp_sched]
  exact (nextCycle_spends s).trans (nextCycle_spends s.nextCycle)

theorem pushPair_spends (q : StackPair) (s : State) (h : s.sched.queue = []) : Sched.Spends 3 s.sched (s.pushPair q).sched :=
  (nextCycle_spends s).trans (pushWord_spends _ s.nextCycle ((nextCycle_queue s).trans h))

theorem popPair_spends (q : StackPair) (s : State) (h : s.sched.queue = []) : Sched.Spends 2 s.sched (s.popPair q).sched := by
  unfold State.popPair
  rw [mapCpu_sched]
  exact popWord_spends s h

theorem returnFromInterrupt_spends (s : State) (h : s.sched.queue = []) :
    Sched.Spends 3 s.sched s.returnFromInterrupt.sched := by
  unfold State.returnFromInterrupt
  rw [mapCpu_sched]
  exact returnNow_spends s h

/-- What an instruction spends after its last fetch. -/
theorem Shape.run_spends {x : Shape} {n : Nat} (s : State) (h : x.fullCycles = some n) (hq : s.sched.queue = []) :
    Sched.Spends (n - x.untaken s.cpu.f) s.sched (x.run s).sched := by
  cases x <;> cases h
  case copyReg | setReg | setPair | aluReg | aluImm | incReg | decReg | decimalAdjust | complementAcc | setCarry
      | complementCarry | rotAcc | rotReg | testBitReg | resBitReg | setBitReg | jumpHl | nothing | disableInterrupts | raiseFrozen =>
    exact .refl s.sched
  case enterHalt => exact (enterHalt_sched s) ▸ .refl _
  case enterStop => exact (enterStop_sched s) ▸ .refl _
  case enableInterrupts => exact (enableInterrupts_sched s) ▸ .refl _
  case loadReg | loadAcc | loadAccHl | aluMem | testBitMem => exact readNext_spends _ s hq
  case storeReg | storeImm | storeAcc | storeAccHl => exact writeNext_spends _ _ s hq
  case loadSpHl | addHl | incPair | decPair | loadHlSp | jump | jumpRelative => exact nextCycle_spends s
  case addSp e => exact addSp_spends e s
  case incMem | decMem | rotMem | resBitMem | setBitMem => exact readWrite_spends _ _ _ s _ hq rfl
  case storeSp a => exact storeSp_spends a s hq
  case pushPair q => exact pushPair_spends q s hq
  case popPair q => exact popPair_spends q s hq
  case jumpIf | jumpRelativeIf => exact .ite (nextCycle_spends s)
  case call | restart => exact call_spends _ s hq
  case callIf => exact .ite (call_spends _ s hq)
  case returnNow => exact returnNow_spends s hq
  case returnFromInterrupt => exact returnFromInterrupt_spends s hq
  case returnIf k => exact returnIf_spends k s hq

/-! ### The cycle table and the decoder -/

/-- The instruction of an entry of the primary map with its immediate byte or word. -/
def entryInstr (e : Entry) (n : Byte) (w : Word) : Instr :=
  match e with
  | .op i => i
  | .imm8 f => f n
  | .imm16 f => f w
  | .stop => .stop
  | .cb => .prefixCb

/-- The cycle table against the meanings, row by row: the fetched bytes and the cycles after them make the table's count, and the same
condition takes away the same cycles (30_encoding.md R179; 70_reset_and_hazards.md R520). -/
theorem primaryEntry_timed (op : Byte) :
    ∃ e, primaryEntry op = some e ∧ ∀ n w f,
      (shape (entryInstr e n w)).fullCycles.map (· + fetchedBytes op) =
          (if op = 0xCB then none else some ((mapEntry cyclesMap op).getD 1)) ∧
        (shape (entryInstr e n w)).untaken f = untakenCycles op f := by
  revert op
  apply forall_byte
  intro n
  fin_cases n <;> exact ⟨_, rfl, fun n w f => ⟨rfl, rfl⟩⟩

/-- The cycle counts of the prefixed map, two fetches included (30_encoding.md R183; 43_rotate_shift_bit.md R310). -/
theorem prefixedInstr_timed (op2 : Byte) :
    ∃ j, prefixedInstr op2 = some j ∧ (shape j).fullCycles = some (prefixedCycles op2 - 2) ∧ ∀ f, (shape j).untaken f = 0 := by
  revert op2
  apply forall_byte
  intro n
  fin_cases n <;> exact ⟨_, rfl, rfl, fun f => rfl⟩

/-- What is decoded from an opcode other than 0xCB is its entry with some immediate operand. -/
theorem decode_entry {op : Byte} {bs rest : List Byte} {i : Instr} {e : Entry} (he : primaryEntry op = some e) (hcb : e ≠ .cb)
    (h : decode (op :: bs) = .ok (i, rest)) : ∃ n w, i = entryInstr e n w := by
  simp only [decode, he] at h
  cases e with
  | op j => cases h; exact ⟨0, 0, rfl⟩
  | stop => cases h; exact ⟨0, 0, rfl⟩
  | imm8 g =>
    cases bs with
    | nil => cases h
    | cons n bs => cases h; exact ⟨n, 0, rfl⟩
  | imm16 g =>
    match bs, h with
    | l :: u :: bs, h => cases h; exact ⟨0, pair u l, rfl⟩
    | [_], h => cases h
    | [], h => cases h
  | cb => exact absurd rfl hcb

/-- What is decoded after 0xCB is the row of the second byte. -/
theorem decode_prefixed {op2 : Byte} {rest : List Byte} {i : Instr} (h : decode [0xCB, op2] = .ok (i, rest)) :
    prefixedInstr op2 = some i := by
  obtain ⟨j, hj, -⟩ := prefixedInstr_timed op2
  have hd : decode [0xCB, op2] = .ok (j, []) := by
    show (match prefixedInstr op2 with | some i => Except.ok (i, []) | none => _) = _
    rw [hj]
  rw [hd] at h
  cases h
  exact hj

/-- An instruction decoded from an opcode other than 0xCB takes, after its last fetch, what the table gives less the fetches. -/
theorem decode_timed {op : Byte} {bs rest : List Byte} {i : Instr} (hop : op ≠ 0xCB) (h : decode (op :: bs) = .ok (i, rest)) :
    ∃ m, (shape i).fullCycles = some m ∧ ∀ f, m - (shape i).untaken f + fetchedBytes op = primaryCycles op f := by
  obtain ⟨e, he, ht⟩ := primaryEntry_timed op
  simp only [if_neg hop, Option.map_eq_some_iff] at ht
  have hcb : e ≠ .cb := by
    rintro rfl
    obtain ⟨⟨m, hm, -⟩, -⟩ := ht 0 0 0
    cases hm
  obtain ⟨n, w, rfl⟩ := decode_entry he hcb h
  obtain ⟨⟨m, hm, htotal⟩, -⟩ := ht n w 0
  refine ⟨m, hm, fun f => ?_⟩
  have hu := (ht n w f).2
  have hle := Shape.untaken_le hm f
  unfold primaryCycles
  omega

/-! ### Fetching -/

theorem fetchNext_spends (s : State) (h : s.sched.queue = []) : Sched.Spends 1 s.sched s.fetchNext.sched := by
  rw [fetchNext_eq s h]
  exact afterRead_spends s.cpu.pc s

@[simp] theorem fetchNext_f (s : State) : s.fetchNext.cpu.f = s.cpu.f := readNext_f s.cpu.pc s

theorem fetchMore_spends (n : Nat) (s : State) (h : s.sched.queue = []) : Sched.Spends n s.sched (fetchMore n s).2.sched := by
  induction n generalizing s with
  | zero => exact .refl s.sched
  | succ n ih =>
    have h1 := fetchNext_spends s h
    have h2 := h1.trans (ih s.fetchNext (h1.queue.trans h))
    rwa [Nat.add_comm 1 n] at h2

@[simp] theorem fetchMore_f (n : Nat) (s : State) : (fetchMore n s).2.cpu.f = s.cpu.f := by
  induction n generalizing s with
  | zero => rfl
  | succ n ih => rw [fetchMore, ih, fetchNext_f]

theorem fetchOpcode_f (s : State) : s.fetchOpcode.cpu.f = s.cpu.f := by
  unfold State.fetchOpcode Cpu.opcodeFetched
  simp

/-- The scheduling state right after the opcode fetch: `remaining` is the table's count less this cycle (10_state.md R57). -/
theorem fetchOpcode_sched (s : State) (h : s.sched.queue = []) :
    s.fetchOpcode.sched =
      { s.sched with
        latch := s.routerRead s.cpu.pc
        instrAddr := s.cpu.pc
        remaining := primaryCycles (s.routerRead s.cpu.pc) s.cpu.f - 1 } := by
  rw [fetchOpcode_eq s h]

/-! ### The step -/

/-- An instruction that begins with an opcode other than 0xCB: after its fetches `remaining` is the table's count less the cycles gone by. -/
theorem fetchInstr_primary {s : State} (h : s.sched.queue = []) (hop : s.routerRead s.cpu.pc ≠ 0xCB) :
    ∃ bs, s.fetchInstr.1 = s.routerRead s.cpu.pc :: bs ∧ s.fetchInstr.2.cpu.f = s.cpu.f ∧
      Sched.Spends (fetchedBytes (s.routerRead s.cpu.pc) - 1)
        { s.sched with remaining := primaryCycles (s.routerRead s.cpu.pc) s.cpu.f - 1 } s.fetchInstr.2.sched := by
  have hs := fetchOpcode_sched s h
  have hm := fetchMore_spends (fetchedBytes (s.routerRead s.cpu.pc) - 1) s.fetchOpcode (by rw [hs]; exact h)
  rw [hs] at hm
  unfold State.fetchInstr
  simp only [fetchOpcode_latch s h, if_neg hop]
  refine ⟨_, rfl, by rw [fetchMore_f, fetchOpcode_f], ?_⟩
  obtain ⟨hq, hc, hr⟩ := hm
  exact ⟨hq, hc, hr⟩

/-- A prefixed instruction: after its two fetches `remaining` is what the second byte's count leaves. -/
theorem fetchInstr_prefixed {s : State} (h : s.sched.queue = []) (hop : s.routerRead s.cpu.pc = 0xCB) :
    ∃ op2, s.fetchInstr.1 = [0xCB, op2] ∧ s.fetchInstr.2.sched.queue = [] ∧
      s.fetchInstr.2.sched.mcycle = s.sched.mcycle + 1 ∧ s.fetchInstr.2.sched.remaining = prefixedCycles op2 - 2 := by
  have hs := fetchOpcode_sched s h
  have hm := fetchMore_spends 1 s.fetchOpcode (by rw [hs]; exact h)
  rw [hs] at hm
  have hb : fetchedBytes 0xCB - 1 = 1 := rfl
  unfold State.fetchInstr
  simp only [fetchOpcode_latch s h, hop, if_true, hb]
  obtain ⟨hq, hc, -⟩ := hm
  exact ⟨s.fetchOpcode.fetchNext.latch, rfl, hq.trans h, hc, rfl⟩

/-- An instruction leaves nothing outstanding and takes its count of machine cycles, the last of which has not ended yet. -/
theorem runInstruction_spends {s t : State} (hq : s.sched.queue = []) (h : runInstruction s = .next t) :
    t.AtBoundary ∧ t.sched.mcycle + 1 = s.sched.mcycle + startCycles (.instruction, s) := by
  unfold runInstruction at h
  split at h
  case h_2 => cases h
  case h_1 i rest hd =>
  obtain rfl := exec_next h
  unfold startCycles
  dsimp only
  by_cases hop : s.routerRead s.cpu.pc = 0xCB
  · rw [if_pos hop]
    obtain ⟨op2, hbytes, hfq, hfm, hfr⟩ := fetchInstr_prefixed hq hop
    rw [hbytes] at hd ⊢
    obtain ⟨j, hj, hfull, huntaken⟩ := prefixedInstr_timed op2
    obtain rfl : i = j := Option.some.inj ((decode_prefixed hd).symm.trans hj)
    obtain ⟨hxq, hxm, hxr⟩ := Shape.run_spends s.fetchInstr.2 hfull hfq
    have hmin : 2 ≤ prefixedCycles op2 := by
      unfold prefixedCycles
      repeat' split
      all_goals decide
    simp only [huntaken] at hxm hxr
    refine ⟨⟨hxq.trans hfq, by omega⟩, ?_⟩
    simp only [List.getD_cons_succ, List.getD_cons_zero]
    omega
  · rw [if_neg hop]
    obtain ⟨bs, hbytes, hf, hfq, hfm, hfr⟩ := fetchInstr_primary hq hop
    rw [hbytes] at hd
    obtain ⟨m, hfull, htotal⟩ := decode_timed hop hd
    obtain ⟨hxq, hxm, hxr⟩ := Shape.run_spends s.fetchInstr.2 hfull (hfq.trans hq)
    have hpos := fetchedBytes_pos (s.routerRead s.cpu.pc)
    have htot := htotal s.cpu.f
    rw [hf] at hxm hxr
    dsimp only at hfm hfr
    refine ⟨⟨hxq.trans (hfq.trans hq), by omega⟩, by omega⟩

/-- The state in which a boundary starts an instruction or a dispatch: the EI delay has counted and the core runs (60_exceptions.md R400). -/
def State.wake (s : State) : State := s.mapCpu fun p => { p.eiTick with halted := false }

/-- What a boundary can start, and in which state. -/
theorem boundary_cases (s : State) :
    s.boundary = (.nothing, s) ∨ s.boundary = (.idle, s.mapCpu Cpu.eiTick) ∨
      (s.cpu.stopped = false ∧ ((∃ k, s.boundary = (.dispatch k, s.wake)) ∨ s.boundary = (.instruction, s.wake))) := by
  have hstop : (s.mapCpu Cpu.eiTick).cpu.stopped = s.cpu.stopped := by
    rw [mapCpu_cpu, eiTick_eq]
  unfold State.boundary
  split
  case isTrue => exact .inl rfl
  dsimp only
  split
  case isTrue => exact .inr (.inl rfl)
  case isFalse hs =>
  rw [Bool.not_eq_true, hstop] at hs
  split
  case isTrue => exact .inr (.inl rfl)
  split
  case isTrue =>
    split
    case h_1 k _ => exact .inr (.inr ⟨hs, .inl ⟨k, rfl⟩⟩)
    case h_2 => exact .inr (.inr ⟨hs, .inr rfl⟩)
  case isFalse => exact .inr (.inr ⟨hs, .inr rfl⟩)

/-- What a boundary that goes on has done. -/
theorem runBoundary_next {s t : State} (h : runBoundary s = .next t) :
    (s.boundary.1 = .nothing ∧ t = s) ∨ (s.boundary.1 = .idle ∧ t = s.mapCpu Cpu.eiTick) ∨
      (s.cpu.stopped = false ∧
        ((∃ k, s.boundary.1 = .dispatch k ∧ t = s.wake.takeInterrupt k) ∨
          (s.boundary = (.instruction, s.wake) ∧ runInstruction s.wake = .next t))) := by
  unfold runBoundary at h
  obtain e | e | ⟨hs, ⟨k, e⟩ | e⟩ := boundary_cases s <;> rw [e] at h ⊢
  · exact .inl ⟨rfl, (Host.Outcome.next.inj h).symm⟩
  · exact .inr (.inl ⟨rfl, (Host.Outcome.next.inj h).symm⟩)
  · exact .inr (.inr ⟨hs, .inl ⟨k, rfl, (Host.Outcome.next.inj h).symm⟩⟩)
  · exact .inr (.inr ⟨hs, .inr ⟨rfl, h⟩⟩)

/-- What a boundary starts leaves nothing outstanding and takes its machine cycles, the last of which has not ended yet. -/
theorem runBoundary_spends {s t : State} (hb : s.AtBoundary) (h : runBoundary s = .next t) :
    t.AtBoundary ∧ t.sched.mcycle + 1 = s.sched.mcycle + startCycles s.boundary := by
  obtain ⟨e, rfl⟩ | ⟨e, rfl⟩ | ⟨-, ⟨k, e, rfl⟩ | ⟨e, hi⟩⟩ := runBoundary_next h
  · exact ⟨hb, by unfold startCycles; rw [e]⟩
  · exact ⟨hb, by unfold startCycles; rw [e]; rfl⟩
  · obtain ⟨hq, hm, hr⟩ := takeInterrupt_spends k s.wake hb.1
    exact ⟨⟨hq.trans hb.1, hr⟩, by unfold startCycles; rw [e, hm]; rfl⟩
  · rw [e]
    exact runInstruction_spends (s := s.wake) hb.1 hi

/-- Settles O58: the fetches and the meaning of what a boundary starts spend exactly what `remaining` was set to, and the cycle table agrees
with them row by row. -/
theorem stepKeepsBoundary : Obligations.StepKeepsBoundary := by
  unfold Obligations.StepKeepsBoundary
  intro s t hs h
  obtain ⟨u, hu, rfl⟩ := step_next h
  have hb : s.beginCycle.AtBoundary := by unfold State.AtBoundary; rw [beginCycle_sched]; exact hs
  obtain ⟨hat, hm⟩ := runBoundary_spends hb hu
  rw [beginCycle_sched] at hm
  exact ⟨hat, hm⟩

/-! ### F and the control bits -/

/-- F and the control bits an instruction of the control family writes: IME, the EI delay, `halted` (10_state.md R44, R50 to R52). -/
def Cpu.status (p : Cpu) : Byte × Bool × BitVec 2 × Bool := (p.f, p.ime, p.eiDelay, p.halted)

@[simp] theorem setReg_status (r : Reg8) (v : Byte) (p : Cpu) : (p.setReg r v).status = p.status := by cases r <;> rfl

@[simp] theorem setPair_status (q : Pair) (w : Word) (p : Cpu) : (p.setPair q w).status = p.status := by cases q <;> rfl

theorem setStackPair_status {q : StackPair} (hq : q ≠ .af) (w : Word) (p : Cpu) : (p.setStackPair q w).status = p.status := by
  cases q
  case af => exact absurd rfl hq
  all_goals rfl

@[simp] theorem setSp_status (w : Word) (s : State) : (s.setSp w).cpu.status = s.cpu.status := rfl

@[simp] theorem setPc_status (w : Word) (s : State) : (s.setPc w).cpu.status = s.cpu.status := rfl

@[simp] theorem setFlags_status (f : Byte) (s : State) : (s.setFlags f).cpu.status = (f, s.cpu.status.2) := rfl

@[simp] theorem setAcc_status (r : ByteResult) (s : State) : (s.setAcc r).cpu.status = (r.flags, s.cpu.status.2) := rfl

@[simp] theorem nextCycle_status (s : State) : s.nextCycle.cpu.status = s.cpu.status := by
  rw [nextCycle_cpu s]; rfl

@[simp] theorem readNext_status (a : Word) (s : State) : (s.readNext a).cpu.status = s.cpu.status := by
  rw [readNext_cpu a s]; rfl

@[simp] theorem writeNext_status (a : Word) (v : Byte) (s : State) : (s.writeNext a v).cpu.status = s.cpu.status := by
  rw [writeNext_cpu a v s]; rfl

@[simp] theorem internal_status (s : State) : s.internal.cpu.status = s.cpu.status := nextCycle_status s

@[simp] theorem fetchNext_status (s : State) : s.fetchNext.cpu.status = s.cpu.status := readNext_status s.cpu.pc s

@[simp] theorem pushWord_status (w : Word) (s : State) : (s.pushWord w).cpu.status = s.cpu.status := by
  simp only [State.pushWord, writeNext_status, setSp_status]

@[simp] theorem popWord_status (s : State) : s.popWord.2.cpu.status = s.cpu.status := by
  simp only [State.popWord, readNext_status, setSp_status]

@[simp] theorem returnNow_status (s : State) : s.returnNow.cpu.status = s.cpu.status := by
  simp only [State.returnNow, setPc_status, internal_status, popWord_status]

@[simp] theorem jump_status (nn : Word) (s : State) : (s.jump nn).cpu.status = s.cpu.status := by
  simp only [State.jump, setPc_status, internal_status]

@[simp] theorem jumpRelative_status (e : Byte) (s : State) : (s.jumpRelative e).cpu.status = s.cpu.status := by
  simp only [State.jumpRelative, setPc_status, internal_status]

@[simp] theorem call_status (nn : Word) (s : State) : (s.call nn).cpu.status = s.cpu.status := by
  simp only [State.call, setPc_status, internal_status, pushWord_status]

/-- An effect that a condition takes or leaves. -/
theorem ite_status {p : Prop} [Decidable p] {s t u : State} (ht : t.cpu.status = s.cpu.status) (hu : u.cpu.status = s.cpu.status) :
    (if p then t else u).cpu.status = s.cpu.status := by
  split <;> assumption

/-- The shapes that write F. -/
def Shape.setsFlags : Shape → Bool
  | .popPair q => q == .af
  | .aluReg _ _ | .aluMem _ | .aluImm _ _ | .incReg _ | .decReg _ | .incMem | .decMem | .decimalAdjust | .complementAcc | .setCarry
  | .complementCarry | .addHl _ | .addSp _ | .loadHlSp _ | .rotAcc _ | .rotReg _ _ | .rotMem _ | .testBitReg _ _ | .testBitMem _
  | .prefixCb => true
  | _ => false

/-- The shapes that write IME, the EI delay or `halted`: DI, EI, RETI and HALT. -/
def Shape.setsControl : Shape → Bool
  | .disableInterrupts | .enableInterrupts | .returnFromInterrupt | .enterHalt => true
  | _ => false

/-- Every other shape leaves F and the control bits. -/
theorem Shape.run_status {x : Shape} (s : State) (hf : x.setsFlags = false) (hc : x.setsControl = false) :
    (x.run s).cpu.status = s.cpu.status := by
  cases x <;> cases hc
  case popPair q =>
    have hq : q ≠ .af := by rintro rfl; cases hf
    simp only [Shape.run, State.popPair, mapCpu_cpu, setStackPair_status hq, popWord_status]
  all_goals cases hf
  case nothing | raiseFrozen | jumpHl => rfl
  case enterStop =>
    simp only [Shape.run, State.enterStop]
    split
    · rw [markRefused_cpu, setPc_status]
    · rw [writeDiv_cpu]; rfl
  case copyReg | setReg | resBitReg | setBitReg => exact setReg_status _ _ _
  case setPair => exact setPair_status _ _ _
  case loadReg | loadAcc | loadAccHl =>
    simp only [Shape.run, State.loadReg, State.loadAcc, State.loadAccHl, setReg_cpu, setReg_status, setPair_cpu, setPair_status,
      readNext_status]
  case storeReg | storeImm | storeAcc | storeAccHl | storeSp =>
    simp only [Shape.run, State.storeReg, State.storeImm, State.storeAcc, State.storeAccHl, State.storeSp, setPair_cpu,
      setPair_status, writeNext_status]
  case resBitMem | setBitMem => simp only [Shape.run, State.resBitMem, State.setBitMem, writeNext_status, readNext_status]
  case loadSpHl | incPair | decPair =>
    simp only [Shape.run, State.loadSpHl, State.incPair, State.decPair, setSp_status, setPair_cpu, setPair_status, internal_status]
  case pushPair => simp only [Shape.run, State.pushPair, pushWord_status, internal_status]
  case jump => exact jump_status _ s
  case jumpIf => exact ite_status (jump_status _ s) rfl
  case jumpRelative => exact jumpRelative_status _ s
  case jumpRelativeIf => exact ite_status (jumpRelative_status _ s) rfl
  case call | restart => exact call_status _ s
  case callIf => exact ite_status (call_status _ s) rfl
  case returnNow => exact returnNow_status s
  case returnIf => exact ite_status ((returnNow_status _).trans (internal_status s)) (internal_status s)

/-! ### What is written to F -/

/-- The control bits are as before, and F's bits 3:0 are 0 if they were. -/
structure KeepsClean (s t : State) : Prop where
  control : t.cpu.status.2 = s.cpu.status.2
  clean : s.FlagsClean → t.FlagsClean

theorem KeepsClean.of_status {s t : State} (h : t.cpu.status = s.cpu.status) : KeepsClean s t := by
  have hf : t.cpu.f = s.cpu.f := congrArg Prod.fst h
  exact ⟨congrArg Prod.snd h, fun hs => by unfold State.FlagsClean; rwa [hf]⟩

theorem KeepsClean.setFlags {s t : State} {f : Byte} (h : t.cpu.status = s.cpu.status) (hf : f.toNat % 16 = 0) :
    KeepsClean s (t.setFlags f) := ⟨show t.cpu.status.2 = _ by rw [h], fun _ => hf⟩

theorem KeepsClean.setAcc {s t : State} {r : ByteResult} (h : t.cpu.status = s.cpu.status) (hf : r.flags.toNat % 16 = 0) :
    KeepsClean s (t.setAcc r) := ⟨show t.cpu.status.2 = _ by rw [h], fun _ => hf⟩

theorem KeepsClean.trans {s t u : State} (h : KeepsClean s t) (k : KeepsClean t u) : KeepsClean s u :=
  ⟨k.control.trans h.control, fun hs => k.clean (h.clean hs)⟩

theorem KeepsClean.writeNext {s t : State} (h : KeepsClean s t) (a : Word) (v : Byte) : KeepsClean s (t.writeNext a v) :=
  h.trans (.of_status (writeNext_status a v t))

theorem aluByte_low (op : AluOp) (a v f : Byte) : (aluByte op a v f).flags.toNat % 16 = 0 := by
  cases op <;> exact packFlags_low _ _ _ _

/-- POP AF clears bits 3:0 of F (40_loads.md R226). -/
theorem and_F0_low (v : Byte) : (v &&& 0xF0).toNat % 16 = 0 := by
  revert v
  decide +kernel

theorem popAf_keepsClean (s : State) : KeepsClean s (s.popPair .af) := by
  have h := popWord_status s
  unfold State.popPair
  generalize s.popWord = r at h ⊢
  exact ⟨show r.2.cpu.status.2 = _ by rw [h], fun _ => and_F0_low (lo r.1)⟩

theorem rotReg_keepsClean (op : RotOp) (r : Reg8) (s : State) : KeepsClean s (s.rotReg op r) :=
  .setFlags (setReg_status r _ s.cpu) (packFlags_low _ _ _ _)

theorem rotMem_keepsClean (op : RotOp) (s : State) : KeepsClean s (s.rotMem op) :=
  (KeepsClean.setFlags (readNext_status s.hl s) (packFlags_low _ _ _ _)).writeNext _ _

theorem testBitReg_keepsClean (b : Oct) (r : Reg8) (s : State) : KeepsClean s (s.testBitReg b r) :=
  .setFlags rfl (packFlags_low _ _ _ _)

theorem testBitMem_keepsClean (b : Oct) (s : State) : KeepsClean s (s.testBitMem b) :=
  .setFlags (readNext_status s.hl s) (packFlags_low _ _ _ _)

theorem prefixedOp_keepsClean (op2 : Byte) (s : State) : KeepsClean s (s.prefixedOp op2) := by
  have keep (x : Shape) (hf : x.setsFlags = false) (hc : x.setsControl = false) : KeepsClean s (x.run s) :=
    .of_status (x.run_status s hf hc)
  unfold State.prefixedOp
  dsimp only
  split
  · split
    · exact rotReg_keepsClean _ _ s
    · exact testBitReg_keepsClean _ _ s
    · exact keep (.resBitReg _ _) rfl rfl
    · exact keep (.setBitReg _ _) rfl rfl
  · split
    · exact rotMem_keepsClean _ s
    · exact testBitMem_keepsClean _ s
    · exact keep (.resBitMem _) rfl rfl
    · exact keep (.setBitMem _) rfl rfl

/-- Every shape but DI, EI, RETI and HALT leaves the control bits, and leaves an F whose bits 3:0 are 0 if they were. -/
theorem Shape.run_keepsClean {x : Shape} (s : State) (hc : x.setsControl = false) : KeepsClean s (x.run s) := by
  cases hf : x.setsFlags
  case false => exact .of_status (x.run_status s hf hc)
  case true =>
  cases x
  case popPair q =>
    obtain rfl : q = .af := by simpa [Shape.setsFlags] using hf
    exact popAf_keepsClean s
  case aluReg | aluImm => exact .setAcc rfl (aluByte_low _ _ _ _)
  case aluMem => exact .setAcc (readNext_status s.hl s) (aluByte_low _ _ _ _)
  case incReg | decReg => exact .setFlags (setReg_status _ _ s.cpu) (packFlags_low _ _ _ _)
  case incMem | decMem => exact (KeepsClean.setFlags (readNext_status s.hl s) (packFlags_low _ _ _ _)).writeNext _ _
  case decimalAdjust | complementAcc | rotAcc => exact .setAcc rfl (packFlags_low _ _ _ _)
  case setCarry | complementCarry => exact .setFlags rfl (packFlags_low _ _ _ _)
  case addHl | loadHlSp =>
    exact .setFlags ((setPair_status .hl _ s.internal.cpu).trans (internal_status s)) (packFlags_low _ _ _ _)
  case addSp => exact .setFlags ((internal_status s.internal).trans (internal_status s)) (packFlags_low _ _ _ _)
  case rotReg => exact rotReg_keepsClean _ _ s
  case rotMem => exact rotMem_keepsClean _ s
  case testBitReg => exact testBitReg_keepsClean _ _ s
  case testBitMem => exact testBitMem_keepsClean _ s
  case prefixCb =>
    have hfetch : KeepsClean s s.fetchNext.prefixedRemaining := .of_status (fetchNext_status s)
    exact hfetch.trans (prefixedOp_keepsClean _ _)
  all_goals cases hf

/-! ### The core over a step -/

/-- A running core: F clean, the control bits legal, neither halted nor stopped. -/
structure State.Running (s : State) : Prop where
  clean : s.FlagsClean
  control : s.ControlInv
  halted : s.cpu.halted = false
  stopped : s.cpu.stopped = false

/-- The control bits are legal where they are those of a legal state that is not halted. -/
theorem controlInv_of_eq {s t : State} (hs : s.ControlInv) (hh : s.cpu.halted = false) (h : t.cpu.status.2 = s.cpu.status.2) :
    t.ControlInv := by
  obtain ⟨hime, hdelay, hhalted⟩ : t.cpu.ime = s.cpu.ime ∧ t.cpu.eiDelay = s.cpu.eiDelay ∧ t.cpu.halted = s.cpu.halted := by
    simpa [Cpu.status] using h
  constructor
  · rw [hdelay]; exact hs.delay
  · rw [hime, hdelay]; exact hs.armed
  · rw [hhalted, hh]; exact nofun

/-- An instruction leaves F clean and the control bits legal. -/
theorem Shape.run_core (x : Shape) {s : State} (hs : s.Running) : (x.run s).FlagsClean ∧ (x.run s).ControlInv := by
  cases hc : x.setsControl
  case false =>
    obtain ⟨hcontrol, hclean⟩ := x.run_keepsClean s hc
    exact ⟨hclean hs.clean, controlInv_of_eq hs.control hs.halted hcontrol⟩
  case true =>
  cases x
  case disableInterrupts => exact ⟨hs.clean, ⟨Nat.zero_le 2, fun _ => rfl, hs.control.lowPower⟩⟩
  case enableInterrupts =>
    simp only [Shape.run, State.enableInterrupts]
    split
    case isTrue h =>
      exact ⟨hs.clean, ⟨Nat.le_refl 2, fun hi => absurd hi (by rw [mapCpu_cpu, h.1]; decide), hs.control.lowPower⟩⟩
    case isFalse => exact ⟨hs.clean, hs.control⟩
  case returnFromInterrupt =>
    obtain ⟨hcontrol, hclean⟩ := KeepsClean.of_status (returnNow_status s)
    simp only [Shape.run, State.returnFromInterrupt]
    generalize s.returnNow = r at hcontrol hclean ⊢
    exact ⟨hclean hs.clean, ⟨Nat.zero_le 2, fun _ => rfl, (controlInv_of_eq hs.control hs.halted hcontrol).lowPower⟩⟩
  case enterHalt =>
    simp only [Shape.run, State.enterHalt]
    split
    · exact ⟨hs.clean, ⟨hs.control.delay, hs.control.armed, fun _ => hs.stopped⟩⟩
    · exact ⟨hs.clean, controlInv_of_eq hs.control hs.halted rfl⟩
  all_goals cases hc

theorem readNext_awake (a : Word) (s : State) (h : s.cpu.stopped = false) : (s.readNext a).cpu.stopped = false := by
  unfold State.readNext
  rw [service_cpu, nextCycle_awake (s.schedule 1 a .read) h]
  exact h

theorem fetchOpcode_cpu (s : State) : s.fetchOpcode.cpu = s.cpu.opcodeFetched := by
  unfold State.fetchOpcode
  dsimp only
  rw [mapCpu_cpu, service_cpu, schedule_cpu]

/-- The later fetches keep F, the control bits and a running core. -/
theorem fetchMore_keeps (n : Nat) (s : State) :
    (fetchMore n s).2.cpu.status = s.cpu.status ∧ (s.cpu.stopped = false → (fetchMore n s).2.cpu.stopped = false) := by
  induction n generalizing s with
  | zero => exact ⟨rfl, id⟩
  | succ n ih =>
    obtain ⟨hstatus, hawake⟩ := ih s.fetchNext
    exact ⟨hstatus.trans (fetchNext_status s), fun h => hawake (readNext_awake s.cpu.pc s h)⟩

theorem fetchInstr_cpu (s : State) :
    s.fetchInstr.2.cpu = (fetchMore (fetchedBytes s.fetchOpcode.latch - 1) s.fetchOpcode).2.cpu := by
  unfold State.fetchInstr
  dsimp only
  split <;> rfl

/-- The fetches leave a running core running. -/
theorem fetchInstr_running {s : State} (hs : s.Running) : s.fetchInstr.2.Running := by
  obtain ⟨hstatus, hawake⟩ := fetchMore_keeps (fetchedBytes s.fetchOpcode.latch - 1) s.fetchOpcode
  rw [fetchOpcode_cpu] at hstatus hawake
  rw [← fetchInstr_cpu] at hstatus hawake
  obtain ⟨hcontrol, hclean⟩ := KeepsClean.of_status (s := s) hstatus
  have hhalted : s.fetchInstr.2.cpu.halted = s.cpu.halted := congrArg (fun c => c.2.2.2) hstatus
  exact ⟨hclean hs.clean, controlInv_of_eq hs.control hs.halted hcontrol, hhalted.trans hs.halted, hawake hs.stopped⟩

/-- The EI delay counts legally: IME is set only as the delay reaches 0 (60_exceptions.md R405). -/
theorem eiTick_controlInv {s : State} (hs : s.ControlInv) : (s.mapCpu Cpu.eiTick).ControlInv := by
  obtain ⟨hdelay, harmed, hlow⟩ := hs
  constructor <;> rw [mapCpu_cpu, eiTick_eq]
  · dsimp only
    split
    · decide
    · bv_omega
  · dsimp only
    intro h
    split
    · rfl
    case isFalse h0 =>
      have himp : s.cpu.ime ≠ true := fun hi => h0 (harmed hi)
      have h1 : s.cpu.eiDelay = 1 := by
        by_contra hne
        rw [if_neg hne] at h
        exact himp h
      rw [h1]; rfl
  · exact hlow

/-- A boundary that starts something leaves a running core. -/
theorem wake_running {s : State} (hf : s.FlagsClean) (hc : s.ControlInv) (hs : s.cpu.stopped = false) : s.wake.Running := by
  have hcpu : s.wake.cpu = { (s.mapCpu Cpu.eiTick).cpu with halted := false } := rfl
  obtain ⟨hdelay, harmed, -⟩ := eiTick_controlInv hc
  rw [mapCpu_cpu, eiTick_eq] at hcpu
  have hcl : s.wake.FlagsClean := by unfold State.FlagsClean; rw [hcpu]; exact hf
  exact ⟨hcl, ⟨hdelay, harmed, nofun⟩, rfl, by rw [hcpu]; exact hs⟩

/-- A dispatch clears IME and the delay (60_exceptions.md R410). -/
theorem takeInterrupt_core (k : Line) {s : State} (hs : s.Running) :
    (s.takeInterrupt k).FlagsClean ∧ (s.takeInterrupt k).ControlInv := by
  have h : (s.takeInterrupt k).cpu.status = (s.acknowledge k).cpu.status := by
    simp only [State.takeInterrupt, setPc_status, internal_status, pushWord_status]
  have hack : (s.acknowledge k).ControlInv := ⟨Nat.zero_le 2, fun _ => rfl, hs.control.lowPower⟩
  obtain ⟨hcontrol, hclean⟩ := KeepsClean.of_status h
  exact ⟨hclean hs.clean, controlInv_of_eq hack hs.halted hcontrol⟩

theorem runBoundary_core {s t : State} (hf : s.FlagsClean) (hc : s.ControlInv) (h : runBoundary s = .next t) :
    t.FlagsClean ∧ t.ControlInv := by
  obtain ⟨-, rfl⟩ | ⟨-, rfl⟩ | ⟨hs, ⟨k, -, rfl⟩ | ⟨-, hi⟩⟩ := runBoundary_next h
  · exact ⟨hf, hc⟩
  · refine ⟨?_, eiTick_controlInv hc⟩
    unfold State.FlagsClean
    rw [mapCpu_cpu, eiTick_eq]
    exact hf
  · exact takeInterrupt_core k (wake_running hf hc hs)
  · unfold runInstruction at hi
    split at hi
    case h_1 i rest _ =>
      obtain rfl := exec_next hi
      exact (shape i).run_core (fetchInstr_running (wake_running hf hc hs))
    case h_2 => cases hi

/-- The beginning of a machine cycle can only clear `stopped` (60_exceptions.md R417). -/
theorem beginCycle_core {s : State} (hf : s.FlagsClean) (hc : s.ControlInv) : s.beginCycle.FlagsClean ∧ s.beginCycle.ControlInv := by
  have hcpu := beginCycle_cpu s
  obtain ⟨hdelay, harmed, hlow⟩ := hc
  refine ⟨by unfold State.FlagsClean; rw [hcpu]; exact hf, ?_⟩
  constructor
  · rw [hcpu]; exact hdelay
  · rw [hcpu]; exact harmed
  · intro h
    rw [hcpu] at h
    rw [beginCycle_awake s (hlow h)]
    exact hlow h

/-- Settles O59: the shapes that write the control bits do so legally, every other one keeps them and writes F through the packed flags. -/
theorem stepKeepsCore : Obligations.StepKeepsCore := by
  unfold Obligations.StepKeepsCore
  intro s t hf hc h
  obtain ⟨u, hu, rfl⟩ := step_next h
  obtain ⟨hbf, hbc⟩ := beginCycle_core hf hc
  obtain ⟨huf, hdelay, harmed, hlow⟩ := runBoundary_core hbf hbc hu
  exact ⟨huf, ⟨hdelay, harmed, hlow⟩⟩

/-! ### Frozen -/

/-- Settles O10: the beginning of the machine cycle keeps the frozen record, so the boundary starts nothing and only the cycle counts. -/
theorem frozenStays : Obligations.FrozenStays := by
  unfold Obligations.FrozenStays
  intro s hf
  have hb (u : State) (hu : u.cpu.frozen ≠ none) : u.boundary = (.nothing, u) := by
    unfold State.boundary
    rw [if_pos hu]
  refine ⟨hb s hf, ?_⟩
  intro hs t h
  have hcpu := beginCycle_awake s hs
  obtain ⟨u, hu, rfl⟩ := step_next h
  unfold runBoundary at hu
  rw [hb s.beginCycle (by rw [hcpu]; exact hf)] at hu
  obtain rfl := Host.Outcome.next.inj hu
  rw [endCycle_cpu, endCycle_sched, beginCycle_sched]
  exact ⟨hcpu, rfl⟩

/-! ### Push and pop -/

theorem shape_push (q : StackPair) : shape (.push q) = .pushPair q := by cases q <;> rfl

theorem shape_pop (q : StackPair) : shape (.pop q) = .popPair q := by cases q <;> rfl

/-- A machine cycle leaves a byte of RAM unless it is in OAM and a DMA is active (20_memory.md R132). -/
theorem nextCycle_ram_idle (s : State) (h : Memory.wf Config.ramBlank s.mem) (k : Nat) (hk : inOam k → s.dma.active = false) :
    s.nextCycle.ram k = s.ram k := by
  by_cases hoam : inOam k
  · obtain ⟨u, hu, e⟩ := nextCycle_split s
    have hdma : u.dma.active = false := by
      rw [hu.dma]
      show (s.dma.active && _) = false
      rw [hk hoam, Bool.false_and]
    have hmem : s.nextCycle.mem = s.mem := by
      rw [e]
      unfold State.dmaStep
      rw [if_neg (by rw [hdma]; simp), hu.mem]
      rfl
    unfold State.ram
    rw [hmem]
  · refine nextCycle_ram s h k ?_
    unfold inOam at hoam
    omega

/-- A machine cycle keeps the work RAM bank, and so the place of every RAM byte. -/
theorem nextCycle_ramKey (s : State) (n : Nat) : s.nextCycle.ramKey n = s.ramKey n := by
  obtain ⟨u, hu, e⟩ := nextCycle_split s
  obtain ⟨m, i, c, f, hd⟩ := dmaStep_eq u
  have h : s.nextCycle.svbk = s.svbk := by rw [e, hd]; exact hu.svbk
  unfold State.ramKey State.wramBank
  rw [h]

/-- A machine cycle with a write of the core leaves every byte but the addressed one, OAM under a DMA apart. -/
theorem afterWrite_ram_other (a : Word) (v : Byte) (s : State) (h : Memory.wf Config.ramBlank s.mem) (k : Nat)
    (hk : k ≠ s.ramKey (fold a.toNat)) (hd : inOam k → s.dma.active = false) : (s.afterWrite a v).ram k = s.ram k := by
  unfold State.afterWrite
  rw [routerWrite_ram_other a v s.nextCycle (nextCycle_mem_wf s h) k (by rw [nextCycle_ramKey]; exact hk),
    nextCycle_ram_idle s h k hd]

theorem afterWrite_memWf (a : Word) (v : Byte) (s : State) (h : Memory.wf Config.ramBlank s.mem) :
    Memory.wf Config.ramBlank (s.afterWrite a v).mem :=
  routerWrite_memWf a v s.nextCycle (nextCycle_mem_wf s h)

/-- The frame of a push. -/
theorem afterPush_ram_other (w : Word) (s : State) (h : Memory.wf Config.ramBlank s.mem) (k : Nat)
    (hhi : k ≠ s.ramKey (fold (s.cpu.sp - 1).toNat))
    (hlo : k ≠ ((s.setSp (s.cpu.sp - 1)).afterWrite (s.cpu.sp - 1) (hi w)).ramKey (fold (s.cpu.sp - 2).toNat))
    (hd : inOam k → s.dma.active = false ∧ ((s.setSp (s.cpu.sp - 1)).afterWrite (s.cpu.sp - 1) (hi w)).dma.active = false) :
    (s.afterPush w).ram k = s.ram k := by
  have h1 := afterWrite_ram_other (s.cpu.sp - 1) (hi w) (s.setSp (s.cpu.sp - 1)) h k hhi fun hk => (hd hk).1
  have hwf := afterWrite_memWf (s.cpu.sp - 1) (hi w) (s.setSp (s.cpu.sp - 1)) h
  unfold State.afterPush
  generalize (s.setSp (s.cpu.sp - 1)).afterWrite (s.cpu.sp - 1) (hi w) = u at h1 hwf hlo hd ⊢
  exact (afterWrite_ram_other _ _ (u.setSp (s.cpu.sp - 2)) hwf k hlo fun hk => (hd hk).2).trans h1

/-- Settles O20: the internal cycle keeps the core, and the two writes are those of `afterPush`. -/
theorem pushPair : Obligations.PushPair := by
  unfold Obligations.PushPair
  intro q s hq hs hwf
  have hcpu := nextCycle_awake s hs
  have hs1 : s.nextCycle.cpu.stopped = false := by rw [hcpu]; exact hs
  refine ⟨?_, ?_, fun w k hhi hlo hd => afterPush_ram_other w s hwf k hhi hlo hd⟩
  · rw [exec_eq_shape, shape_push]
    simp only [Shape.run, State.pushPair, State.internal]
    rw [pushWord_eq _ s.nextCycle ((nextCycle_queue s).trans hq) hs1, hcpu]
  · rw [afterPush_cpu _ s.nextCycle hs1, hcpu]

/-- Settles O21: the two reads are those of `afterPop`, and the pair takes the word they read. -/
theorem popPair : Obligations.PopPair := by
  unfold Obligations.PopPair
  intro q s hq hs
  refine ⟨?_, rfl, rfl⟩
  rw [exec_eq_shape, shape_pop]
  simp only [Shape.run, State.popPair]
  rw [popWord_eq s hq hs]
  simp only [State.mapCpu, afterPop_cpu s hs]

/-! ### Rules over all instructions -/

theorem eq_di_of_shape {i : Instr} (h : shape i = .disableInterrupts) : i = .di := by
  cases i <;> first | rfl | cases h

theorem eq_ei_of_shape {i : Instr} (h : shape i = .enableInterrupts) : i = .ei := by
  cases i <;> first | rfl | cases h

theorem eq_reti_of_shape {i : Instr} (h : shape i = .returnFromInterrupt) : i = .reti := by
  cases i <;> first | rfl | cases h

/-- Settles O39: only the shapes of DI, EI, RETI and HALT write the control bits, and HALT writes neither IME nor the delay. -/
theorem imeChanges : Obligations.ImeChanges := by
  unfold Obligations.ImeChanges
  intro i s t h
  obtain rfl := exec_next h
  cases hc : (shape i).setsControl
  case false =>
    obtain ⟨hcontrol, -⟩ := (shape i).run_keepsClean s hc
    obtain ⟨hime, hdelay, -⟩ : ((shape i).run s).cpu.ime = s.cpu.ime ∧ ((shape i).run s).cpu.eiDelay = s.cpu.eiDelay ∧
        ((shape i).run s).cpu.halted = s.cpu.halted := by
      simpa [Cpu.status] using hcontrol
    exact ⟨fun _ => hime.trans, fun _ => hime.trans, fun _ => .inl hdelay⟩
  case true =>
  cases hx : shape i <;> rw [hx] at hc
  case disableInterrupts => exact ⟨fun hi => absurd (eq_di_of_shape hx) hi, fun _ _ => rfl, fun _ => .inr rfl⟩
  case enableInterrupts =>
    refine ⟨fun _ => ?_, fun _ => ?_, fun hi => absurd (eq_ei_of_shape hx) hi⟩
    all_goals
      simp only [Shape.run, State.enableInterrupts]
      split <;> exact id
  case returnFromInterrupt =>
    simp only [Shape.run, State.returnFromInterrupt]
    exact ⟨fun _ _ => rfl, fun hi => absurd (eq_reti_of_shape hx) hi, fun _ => .inr rfl⟩
  case enterHalt =>
    simp only [Shape.run, State.enterHalt]
    split <;> exact ⟨fun _ => id, fun _ => id, fun _ => .inl rfl⟩
  all_goals cases hc

/-- A shape that does not write F leaves it. -/
theorem Shape.run_f {x : Shape} (s : State) (h : x.setsFlags = false) : (x.run s).cpu.f = s.cpu.f := by
  cases hc : x.setsControl
  case false => exact congrArg Prod.fst (x.run_status s h hc)
  case true =>
  cases x
  case disableInterrupts => rfl
  case enableInterrupts => simp only [Shape.run, State.enableInterrupts]; split <;> rfl
  case returnFromInterrupt => exact congrArg Prod.fst (returnNow_status s)
  case enterHalt => simp only [Shape.run, State.enterHalt]; split <;> rfl
  all_goals cases hc

/-- No instruction whose rule says "Flags: none" has a shape that writes F (10_state.md R47). -/
theorem Flagless.setsFlags {i : Instr} (h : Flagless i) : (shape i).setsFlags = false := by
  cases h
  case ldReg dst r => cases dst <;> cases r <;> rfl
  case ldImm r _ | ldRegMem r => cases r <;> rfl
  case store h =>
    cases h
    case reg r => cases r <;> rfl
    all_goals rfl
  case load h => cases h <;> rfl
  case ldPair q _ | incPair q | decPair q => cases q <;> rfl
  case push q => cases q <;> rfl
  case pop q h =>
    rw [shape_pop]
    exact beq_eq_false_iff_ne.2 h
  case resReg b r | setReg b r => cases b <;> cases r <;> rfl
  case resMem b | setMem b => cases b <;> rfl
  case jpIf k _ | jrIf k _ | callIf k _ | retIf k => cases k <;> rfl
  case rst y => cases y <;> rfl
  case illegal u => cases u <;> rfl
  all_goals rfl

/-- Settles O40: the shapes of these instructions do not write F. -/
theorem flaglessKeepFlags : Obligations.FlaglessKeepFlags := by
  unfold Obligations.FlaglessKeepFlags
  intro i s t hi h
  obtain rfl := exec_next h
  exact (shape i).run_f s hi.setsFlags

/-! ### The register file -/

/-- A write of a half reads back and leaves every other half (10_state.md R41). -/
theorem setReg_reg (dst r : Reg8) (v : Byte) (p : Cpu) : (p.setReg dst v).reg r = if r = dst then v else p.reg r := by
  cases dst <;> cases r <;> rfl

theorem setPair_pairReg (q : Pair) (w : Word) (p : Cpu) : (p.setPair q w).pairReg q = w := by
  cases q
  case sp => rfl
  all_goals exact pair_hi_lo w

theorem setPair_pairReg_of_ne {q r : Pair} (h : r ≠ q) (w : Word) (p : Cpu) : (p.setPair q w).pairReg r = p.pairReg r := by
  cases q <;> cases r <;> first | exact absurd rfl h | rfl

theorem setStackPair_stackPair {q : StackPair} (h : q ≠ .af) (w : Word) (p : Cpu) : (p.setStackPair q w).stackPair q = w := by
  cases q
  case af => exact absurd rfl h
  all_goals exact pair_hi_lo w

/-- A pair's value: 256 times the first-named register plus the other. -/
theorem pair_toNat_comm (h l : Byte) : (pair h l).toNat = 256 * h.toNat + l.toNat := by
  rw [pair_toNat, Nat.mul_comm]

/-- Settles O16, one law of the register file per clause. -/
theorem registerFile : Obligations.RegisterFile := by
  unfold Obligations.RegisterFile
  intro p
  refine ⟨fun dst r v => setReg_reg dst r v p, ?_, fun q w => setPair_pairReg q w p, fun q r w h => setPair_pairReg_of_ne h w p,
    pair_toNat_comm p.b p.c, pair_toNat_comm p.d p.e, pair_toNat_comm p.h p.l, rfl, pair_toNat_comm p.a p.f, fun _ => rfl,
    fun q w h => setStackPair_stackPair h w p⟩
  intro dst v
  cases dst <;> rfl

/-! ### Reset -/

/-- Settles O55, by evaluation of the reset state's fields and registers. -/
theorem resetValues : Obligations.ResetValues := by
  unfold Obligations.ResetValues
  decide +kernel

/-! ### The I/O page -/

/-- The addresses 0xFF00 to 0xFF7F belong to the I/O page (20_memory.md R101). -/
theorem owner_io {n : Nat} (h1 : 0xFF00 ≤ n) (h2 : n < 0xFF80) : owner n = .io := by
  unfold owner
  rw [if_neg (by omega), if_neg (by omega), if_neg (by omega), if_neg (by omega), if_neg (by omega), if_neg (by omega),
    if_pos (by omega)]

theorem routerRead_io {a : Word} (s : State) (h1 : 0xFF00 ≤ a.toNat) (h2 : a.toNat < 0xFF80) : s.routerRead a = s.readIo a.toNat := by
  unfold State.routerRead
  simp only [owner_io h1 h2, fold_high (show 0xFE00 ≤ a.toNat by omega)]

theorem routerWrite_io {a : Word} (v : Byte) (s : State) (h1 : 0xFF00 ≤ a.toNat) (h2 : a.toNat < 0xFF80) :
    s.routerWrite a v = s.writeIo a.toNat v := by
  unfold State.routerWrite
  simp only [owner_io h1 h2, fold_high (show 0xFE00 ≤ a.toNat by omega)]

/-- The registers that store a whole byte and give it back. -/
def plainIo : List Nat := [0xFF01, 0xFF05, 0xFF06, 0xFF42, 0xFF43, 0xFF45, 0xFF46, 0xFF47, 0xFF48, 0xFF49, 0xFF4A, 0xFF4B]

theorem writeIo_plain_self {n : Nat} (hn : n ∈ plainIo) (v : Byte) (s : State) : (s.writeIo n v).readIo n = v := by
  fin_cases hn <;> rfl

theorem writeIo_plain_other {n m : Nat} (hn : n ∈ plainIo) (hm : m ∈ plainIo) (hne : m ≠ n) (v : Byte) (s : State) :
    (s.writeIo n v).readIo m = s.readIo m := by
  fin_cases hn <;> fin_cases hm <;> first | exact absurd rfl hne | rfl

/-! #### LCDC -/

/-- Whatever else a write of LCDC starts, the registers are kept, LCDC itself with the new byte. -/
theorem writeLcdc_kept (v : Byte) (s : State) : Kept { s with ppu := { s.ppu with lcdc := v } } (s.writeLcdc v) := by
  have restart : Kept { s with ppu := { s.ppu with lcdc := v } } { s with ppu := { s.ppu with lcdc := v, ly := 0, lineDot := 0 } } :=
    ppu_kept _ _ rfl rfl rfl rfl rfl rfl rfl rfl rfl rfl
  unfold State.writeLcdc
  dsimp only
  split
  · exact restart
  · split
    · exact Kept.refl _
    · exact restart.trans (startLine_kept _)

theorem writeLcdc_plain {m : Nat} (hm : m ∈ plainIo) (v : Byte) (s : State) : (s.writeIo 0xFF40 v).readIo m = s.readIo m := by
  obtain ⟨p, r, e⟩ := writeLcdc_eq v s
  have k := writeLcdc_kept v s
  have hw : s.writeIo 0xFF40 v = { s with ppu := p, refused := r } := e
  rw [e] at k
  rw [hw]
  fin_cases hm
  exacts [rfl, rfl, rfl, k.scy, k.scx, k.lyc, rfl, k.bgp, k.obp0, k.obp1, k.wy, k.wx]

/-! #### Serial -/

/-- The bits SC stores (20_memory.md R142). -/
def Serial.control (t : Serial) : Bool × Bool × Bool := (t.start, t.fast, t.clock)

theorem send_control (p : Params) (v : Byte) (t : Serial) : (t.send p v).control = t.control := by
  unfold Serial.send Serial.scan
  split <;> rfl

theorem standardSerial_control (s : State) : s.standardSerial.serial.control = s.serial.control := by
  unfold State.standardSerial
  split
  · exact send_control _ _ _
  · rfl

theorem otherSerial_control (n : Nat) (s : State) : (s.otherSerial n).serial.control = s.serial.control := by
  unfold State.otherSerial
  split
  · exact send_control _ _ _
  · rfl

/-- A write of SC that is not refused stores bits 7, 1 and 0, whatever the collaborator does. -/
theorem writeSc_control {v : Byte} (h : v.getLsbD 7 = false ∨ v.getLsbD 1 = false) (s : State) :
    (s.writeSc v).serial.control = (bitOf v 7, bitOf v 1, bitOf v 0) := by
  have hbits : (bitOf v 7 && bitOf v 1) = false := Bool.and_eq_false_iff.2 h
  unfold State.writeSc
  rw [hbits]
  cases s.params.serialEvent with
  | standard => exact standardSerial_control _
  | other n => exact otherSerial_control n _

/-- SC as it reads after bits 7, 1 and 0 of a byte have been stored. -/
theorem scByte_of_stored (v : Byte) :
    bitAt 7 (bitOf v 7) ||| 0x7C ||| bitAt 1 (bitOf v 1) ||| bitAt 0 (bitOf v 0) = 0x7C ||| (v &&& 0x83) := by
  revert v
  decide +kernel

theorem writeSc_read {v : Byte} (h : v.getLsbD 7 = false ∨ v.getLsbD 1 = false) (s : State) :
    (s.writeIo 0xFF02 v).readIo 0xFF02 = 0x7C ||| (v &&& 0x83) := by
  obtain ⟨h7, h1, h0⟩ : (s.writeSc v).serial.start = bitOf v 7 ∧ (s.writeSc v).serial.fast = bitOf v 1 ∧
      (s.writeSc v).serial.clock = bitOf v 0 := by
    simpa [Serial.control] using writeSc_control h s
  show (s.writeSc v).serial.scByte = _
  unfold Serial.scByte
  rw [h7, h1, h0, scByte_of_stored]

/-! #### Timer -/

/-- After a count or a write the counter and TAC stand as that set them. -/
theorem timerEdge_kept_counter (e : Config.TimerEvent) (s : State) :
    (s.timerEdge e).timer.sys = s.timer.sys ∧ (s.timerEdge e).timer.tac = s.timer.tac := by
  obtain ⟨a, g, q, h⟩ := timerEdge_change e s
  rw [h]
  exact ⟨rfl, rfl⟩

theorem writeDiv_read (v : Byte) (s : State) : (s.writeIo 0xFF04 v).readIo 0xFF04 = 0x00 := by
  show hi s.writeDiv.timer.sys = _
  unfold State.writeDiv
  rw [(timerEdge_kept_counter _ _).1]
  exact (by decide : hi 0 = 0)

theorem tacByte_of_stored (v : Byte) : BitVec.ofNat 8 (0xF8 + (BitVec.ofNat 3 v.toNat).toNat) = 0xF8 ||| (v &&& 0x07) := by
  revert v
  decide +kernel

theorem writeTac_read (v : Byte) (s : State) : (s.writeIo 0xFF07 v).readIo 0xFF07 = 0xF8 ||| (v &&& 0x07) := by
  show BitVec.ofNat 8 (0xF8 + (s.writeTac v).timer.tac.toNat) = _
  unfold State.writeTac
  rw [(timerEdge_kept_counter _ _).2]
  exact tacByte_of_stored v

/-! #### Sound -/

/-- By default a sound register is plain storage (60_exceptions.md R466). -/
theorem writeSound_read {s : State} (hp : s.params.soundModel = .standard) (hwf : Memory.wf Config.soundBlank s.sound) {n m : Nat}
    (hn : ioReg n = .sound) (hm : ioReg m = .sound) (v : Byte) :
    (s.writeIo n v).readIo m = if m = n then v else s.readIo m := by
  simp only [State.readIo, State.writeIo, hn, hm, State.soundRead, hp]
  split
  case isTrue h => rw [h, Memory.get_set_self _ _ _ hwf]
  case isFalse h => rw [Memory.get_set_other _ _ _ _ hwf h]

/-! #### Registers with unused or read-only bits -/

theorem p1Byte_of_stored (v : Byte) (n : BitVec 4) :
    BitVec.ofNat 8 (0xC0 + 16 * (BitVec.ofNat 2 (v.toNat / 16)).toNat + n.toNat) = 0xC0 ||| (v &&& 0x30) ||| n.setWidth 8 := by
  revert v n
  decide +kernel

theorem ifByte_of_stored (v : Byte) : BitVec.ofNat 8 (0xE0 + (BitVec.ofNat 5 v.toNat).toNat) = 0xE0 ||| (v &&& 0x1F) := by
  revert v
  decide +kernel

theorem key1Byte_of_stored (v : Byte) : 0x7E ||| bitAt 0 (bitOf v 0) = 0x7E ||| (v &&& 0x01) := by
  revert v
  decide +kernel

/-- Bits 6:3 of STAT are those stored. -/
theorem statByte_of_stored (v : Byte) (n : BitVec 3) :
    BitVec.ofNat 8 (0x80 + 8 * (BitVec.ofNat 4 (v.toNat / 8)).toNat + n.toNat) = 0x80 ||| (v &&& 0x78) ||| n.setWidth 8 := by
  revert v n
  decide +kernel

/-- Bits 2:0 of STAT are computed. -/
theorem statByte_low (sel : BitVec 4) (n : BitVec 3) : BitVec.ofNat 8 (0x80 + 8 * sel.toNat + n.toNat) &&& 0x07 = n.setWidth 8 := by
  revert sel n
  decide +kernel

/-- STAT's computed bits: LY = LYC and the mode (60_exceptions.md R446). -/
def Ppu.statLow (p : Ppu) : BitVec 3 := BitVec.ofNat 3 ((if p.lyByte = p.lyc then 4 else 0) + p.mode.code)

theorem statByte_eq (p : Ppu) : p.statByte = BitVec.ofNat 8 (0x80 + 8 * p.statSel.toNat + p.statLow.toNat) := by
  have hmode : p.mode.code < 4 := by cases p.mode <;> decide
  have hlow : p.statLow.toNat = (if p.lyByte = p.lyc then 4 else 0) + p.mode.code := by
    unfold Ppu.statLow
    rw [BitVec.toNat_ofNat, Nat.mod_eq_of_lt]
    split <;> omega
  unfold Ppu.statByte
  rw [hlow, Nat.add_assoc]

theorem writeStat_read (v : Byte) (s : State) :
    (s.writeIo 0xFF41 v).readIo 0xFF41 = 0x80 ||| (v &&& 0x78) ||| (s.readIo 0xFF41 &&& 0x07) := by
  show ({ s.ppu with statSel := BitVec.ofNat 4 (v.toNat / 8) } : Ppu).statByte = _ ||| (s.ppu.statByte &&& 0x07)
  rw [statByte_eq, statByte_eq s.ppu, statByte_low]
  exact statByte_of_stored v s.ppu.statLow

/-- Settles O43, from what each register of the page stores and reads. -/
theorem ioMasks : Obligations.IoMasks := by
  unfold Obligations.IoMasks
  intro v s
  refine ⟨fun a h1 h2 => ⟨routerRead_io s h1 h2, routerWrite_io v s h1 h2⟩, fun n hn => ?unmapped,
    fun n hn => ⟨writeIo_plain_self hn v s, fun m hm hne => writeIo_plain_other hn hm hne v s⟩, ?lcdc,
    fun m hm => writeLcdc_plain hm v s, fun h => writeSc_read h s, writeDiv_read v s, fun hp hwf n hn => ⟨?_, fun m hm hne => ?_⟩,
    p1Byte_of_stored v _, ifByte_of_stored v, writeTac_read v s, rfl, key1Byte_of_stored v, tacByte_of_stored v, rfl, writeStat_read v s⟩
  case unmapped => simp only [State.readIo, State.writeIo, hn, and_self]
  case lcdc => exact (writeLcdc_kept v s).lcdc
  · rw [writeSound_read hp hwf hn hn, if_pos rfl]
  · rw [writeSound_read hp hwf hn hm, if_neg hne]

end Sys2Proof.Machine

/-! SUPPORT. Invariants of the devices and memories (20_memory.md; 60_exceptions.md R440 to R460). What a step can do to them is said once, by
`DeviceInvariant`: a property that the peripherals' dots, the DMA and each kind of write keep holds after every step. The statements O57 and
O60 follow from four such properties. -/

namespace Sys2Proof.Machine

/-! ### What each part of a dot changes -/

/-- The devices and memories that the invariants of a step speak of, with the parameters. -/
def State.devices (s : State) : Params × Timer × Ppu × Dma × Memory × Memory × Cart × Option FrameReport :=
  (s.params, s.timer, s.ppu, s.dma, s.mem, s.sound, s.cart, s.report)

@[simp] theorem markFatal_devices (m : Option String) (s : State) : (s.markFatal m).devices = s.devices := by
  obtain ⟨f, e⟩ := markFatal_eq m s; rw [e]; rfl

@[simp] theorem markRefused_devices (f : Feature) (s : State) : (s.markRefused f).devices = s.devices := by
  obtain ⟨r, e⟩ := markRefused_eq f s; rw [e]; rfl

@[simp] theorem buttonEvent_devices (e : ButtonEvent) (s : State) : (s.buttonEvent e).devices = s.devices := by
  unfold State.buttonEvent
  dsimp only
  split <;> rfl

@[simp] theorem deliverEvents_devices (es : List ButtonEvent) (s : State) : (deliverEvents es s).devices = s.devices := by
  induction es generalizing s with
  | nil => rfl
  | cons e es ih =>
    unfold deliverEvents
    split
    · rw [ih, buttonEvent_devices]
    · rfl

@[simp] theorem serialDot_devices (s : State) : s.serialDot.devices = s.devices := by
  obtain ⟨b, g, d, q, e⟩ := serialDot_change s; rw [e]; rfl

@[simp] theorem writeSc_devices (v : Byte) (s : State) : (s.writeSc v).devices = s.devices := by
  obtain ⟨t, r, e⟩ := writeSc_eq v s; rw [e]; rfl

/-- The STAT line of a dot is the pipeline's own, and may request line 1 (60_exceptions.md R447). -/
theorem statDot_eq (s : State) : ∃ q, s.statDot = { s with ppu := { s.ppu with statLine := s.statNow }, irq := q } := by
  unfold State.statDot
  dsimp only
  split <;> exact ⟨_, rfl⟩

/-- The advance moves the two counters, and may request line 0 (60_exceptions.md R442). -/
theorem lineAdvance_eq (s : State) : ∃ q, s.lineAdvance =
    { s with
      ppu := { s.ppu with
        lineDot := if s.ppu.lineDot + 1 = 456 then 0 else s.ppu.lineDot + 1
        ly := if s.ppu.lineDot + 1 = 456 then (if s.ppu.ly + 1 = 154 then 0 else s.ppu.ly + 1) else s.ppu.ly }
      irq := q } := by
  unfold State.lineAdvance
  dsimp only
  generalize (if s.ppu.ly + 1 = 154 then 0 else s.ppu.ly + 1) = ly
  split
  · split <;> exact ⟨_, rfl⟩
  · exact ⟨_, rfl⟩

/-- A line's list right after its first dot: no candidate, or entry 0 (60_exceptions.md R448). -/
def FreshList (cs : List Sprite) : Prop := cs = [] ∨ ∃ e : Sprite, e.index = 0 ∧ cs = [e]

theorem FreshList.fit {cs : List Sprite} (h : FreshList cs) (ly lineDot : Nat) : CandidatesFit ly lineDot cs := by
  obtain rfl | ⟨e, he, rfl⟩ := h
  · exact ⟨Nat.zero_le 10, .nil, fun _ => nofun⟩
  · exact candidatesFit_singleton he

/-- A new line begins with a fresh list. -/
theorem startLine_candidates (s : State) : ∃ cs r,
    s.startLine = { s with ppu := { s.ppu with candidates := cs, samples := [] }, refused := r } ∧ FreshList cs := by
  have first (u : State) (hu : u.ppu.candidates = []) : ∃ cs, u.examine 0 = u.withCandidates cs ∧ FreshList cs := by
    obtain h | ⟨-, h⟩ := examine_cases 0 u
    · exact ⟨[], by rw [h, State.withCandidates, ← hu], .inl rfl⟩
    · exact ⟨[u.oamEntry 0], by rw [h, hu]; rfl, .inr ⟨_, rfl, rfl⟩⟩
  unfold State.startLine
  dsimp only
  split
  · obtain ⟨r, e⟩ := markRefused_eq .tallSprites { s with ppu := { s.ppu with candidates := [], samples := [] } }
    rw [e]
    obtain ⟨cs, h, hcs⟩ := first { s with ppu := { s.ppu with candidates := [], samples := [] }, refused := r } rfl
    exact ⟨cs, r, h, hcs⟩
  · obtain ⟨cs, h, hcs⟩ := first { s with ppu := { s.ppu with candidates := [], samples := [] } } rfl
    exact ⟨cs, s.refused, h, hcs⟩

theorem startTransfer_eq (s : State) : ∃ r, s.startTransfer =
    { s with ppu := { s.ppu with transfer := s.transferDots, samples := [s.ppu.bgSample] }, refused := r } := by
  unfold State.startTransfer
  dsimp only
  split
  · exact markRefused_eq .window _
  · exact ⟨_, rfl⟩

theorem sampleGroup_eq (s : State) : ∃ l, s.sampleGroup = { s with ppu := { s.ppu with samples := l } } := by
  unfold State.sampleGroup
  split <;> exact ⟨_, rfl⟩

/-- A dot of the transfer stores at most one shade. -/
theorem emit_eq (s : State) : ∃ m, s.emit = { s with ppu := { s.ppu with frame := m } } ∧
    (m = s.ppu.frame ∨ ∃ k v, m = Memory.set Config.frameBlank s.ppu.frame k v) := by
  unfold State.emit
  dsimp only
  split
  · exact ⟨_, rfl, .inr ⟨_, _, rfl⟩⟩
  · exact ⟨_, rfl, .inl rfl⟩

/-- What a dot at a line and a lineDot can make of the candidate list: it is left alone below the visible lines, begun afresh at dot 0, and else
left alone or given the entry that is examined in this dot (60_exceptions.md R448). -/
inductive ListEvent (ly dot : Nat) (cs : List Sprite) : List Sprite → Prop where
  | vblank (h : 144 ≤ ly) : ListEvent ly dot cs cs
  | fresh (h : dot = 0) {cs' : List Sprite} (hcs : FreshList cs') : ListEvent ly dot cs cs'
  | same (h : 0 < dot) : ListEvent ly dot cs cs
  | append (hl : ly < 144) (h : 0 < dot) (e : Sprite) (he : 2 * e.index = dot) (room : cs.length < 10) : ListEvent ly dot cs (cs ++ [e])

/-- What the events of a dot change: the line's lists, its transfer length and one shade of the frame buffer; and they may mark a refusal. -/
theorem lineEvents_eq (s : State) : ∃ cs l n m r,
    s.lineEvents = { s with ppu := { s.ppu with candidates := cs, samples := l, transfer := n, frame := m }, refused := r } ∧
      ListEvent s.ppu.ly s.ppu.lineDot s.ppu.candidates cs ∧ (n = s.ppu.transfer ∨ n = s.transferDots) ∧
      (m = s.ppu.frame ∨ ∃ k v, m = Memory.set Config.frameBlank s.ppu.frame k v) := by
  unfold State.lineEvents
  split
  case isTrue h => exact ⟨_, _, _, _, _, rfl, .vblank h, .inl rfl, .inl rfl⟩
  case isFalse hl =>
  split
  case isTrue h0 =>
    obtain ⟨cs, r, e, hcs⟩ := startLine_candidates s
    exact ⟨_, _, _, _, _, e, .fresh h0 hcs, .inl rfl, .inl rfl⟩
  case isFalse h0 =>
  have hpos : 0 < s.ppu.lineDot := Nat.pos_of_ne_zero h0
  split
  · split
    case isTrue heven =>
      obtain e | ⟨hroom, e⟩ := examine_cases (s.ppu.lineDot / 2) s
      · exact ⟨_, _, _, _, _, e, .same hpos, .inl rfl, .inl rfl⟩
      · refine ⟨_, _, _, _, _, e, .append (Nat.lt_of_not_le hl) hpos _ ?_ hroom, .inl rfl, .inl rfl⟩
        show 2 * (s.ppu.lineDot / 2) = s.ppu.lineDot
        omega
    case isFalse => exact ⟨_, _, _, _, _, rfl, .same hpos, .inl rfl, .inl rfl⟩
  · split
    · obtain ⟨r, e⟩ := startTransfer_eq s
      exact ⟨_, _, _, _, _, e, .same hpos, .inr rfl, .inl rfl⟩
    · obtain ⟨l, e⟩ := sampleGroup_eq s
      obtain ⟨m, e', hm⟩ := emit_eq s.sampleGroup
      rw [e] at e' hm
      rw [e]
      exact ⟨_, _, _, _, _, e', .same hpos, .inl rfl, hm⟩

/-- A dot of the pipeline changes the pipeline, IF and the refusal mark. -/
theorem ppuDot_eq (s : State) : ∃ p q r, s.ppuDot = { s with ppu := p, irq := q, refused := r } := by
  unfold State.ppuDot
  split
  · obtain ⟨q, e⟩ := lineAdvance_eq s
    obtain ⟨cs, l, n, m, r, e', -⟩ := lineEvents_eq s.lineAdvance
    obtain ⟨q', e''⟩ := statDot_eq s.lineAdvance.lineEvents
    rw [e'', e', e]
    exact ⟨_, _, _, rfl⟩
  · obtain ⟨q, e⟩ := statDot_eq s
    rw [e]
    exact ⟨_, _, _, rfl⟩

/-! ### The DMA step -/

/-- Whether the DMA engine copies a byte in a machine cycle. -/
def Dma.Copies (d : Dma) : Prop := d.active = true ∧ d.index < 160

/-- A DMA step that copies: one byte into OAM, the index counts, and a byte from 0xFE00 up is drawn (20_memory.md R130, R131). -/
theorem dmaStep_copies {s : State} (h : s.dma.Copies) : ∃ f, s.dmaStep =
    { s with
      mem := Memory.set Config.ramBlank s.mem (0xFE00 + s.dma.index) (s.dmaRead (s.dma.src + BitVec.ofNat 16 s.dma.index))
      dma := { s.dma with index := s.dma.index + 1 }
      freeCount := if 0xFE00 ≤ (s.dma.src + BitVec.ofNat 16 s.dma.index).toNat then s.freeCount + 1 else s.freeCount
      fatal := f } := by
  obtain ⟨f, e⟩ := markFatal_eq (s.readFatal (s.dma.src + BitVec.ofNat 16 s.dma.index))
    (s.setRam (0xFE00 + s.dma.index) (s.dmaRead (s.dma.src + BitVec.ofNat 16 s.dma.index)))
  unfold State.dmaStep
  rw [if_pos (show s.dma.active = true ∧ s.dma.index < 160 from h)]
  dsimp only
  rw [e]
  exact ⟨f, rfl⟩

theorem dmaStep_idle {s : State} (h : ¬ s.dma.Copies) : s.dmaStep = s := if_neg h

/-! ### Properties that every step keeps -/

/-- A property that sees only `State.devices`, and that the end of a frame call, a dot of the timer and of the pipeline, the DMA, and each kind
of write through the router keep. -/
structure DeviceInvariant (P : State → Prop) : Prop where
  devices : ∀ {s t : State}, P s → t.devices = s.devices → P t
  frameEnd : ∀ {s : State}, P s → P s.frameEnd
  counter : ∀ {s : State} (e : Config.TimerEvent) (n : BitVec 16) (c : BitVec 3), P s →
    P (State.timerEdge e { s with timer := { s.timer with sys := n, tac := c } })
  timerBytes : ∀ {s : State} (a b : Byte), P s → P { s with timer := { s.timer with tima := a, tma := b } }
  ppuDot : ∀ {s : State}, P s → P s.ppuDot
  ppuBytes : ∀ {s : State} (sel : BitVec 4) (scy scx lyc bgp obp0 obp1 wy wx : Byte), P s →
    P { s with ppu := { s.ppu with
      statSel := sel, scy := scy, scx := scx, lyc := lyc, bgp := bgp, obp0 := obp0, obp1 := obp1, wy := wy, wx := wx } }
  writeLcdc : ∀ {s : State} (v : Byte), P s → P (s.writeLcdc v)
  dmaStep : ∀ {s : State}, P s → P s.dmaStep
  endCycle : ∀ {s : State}, P s → P s.endCycle
  startDma : ∀ {s : State} (v : Byte), P s → P (s.startDma v)
  setRam : ∀ {s : State} (k : Nat) (v : Byte), P s → P (s.setRam k v)
  sound : ∀ {s : State} (n : Nat) (v : Byte), P s → P { s with sound := Memory.set Config.soundBlank s.sound n v }
  cart : ∀ {s : State} (w : List (Word × Byte)), P s → P { s with cart := { s.cart with writes := w } }

namespace DeviceInvariant

variable {P : State → Prop} (inv : DeviceInvariant P) {s : State}

include inv

/-! #### Time -/

theorem timerDot (h : P s) : P s.timerDot := inv.counter .count s.nextSys s.timer.tac h

theorem tickDot (h : P s) : P s.tickDot := by
  have hd : P (deliverEvents s.frameEnd.inputs s.frameEnd) := inv.devices (inv.frameEnd h) (deliverEvents_devices _ _)
  exact inv.devices (inv.devices (inv.ppuDot (inv.timerDot hd)) (serialDot_devices _)) rfl

theorem ticks (n : Nat) (h : P s) : P (State.ticks n s) := by
  induction n generalizing s with
  | zero => exact h
  | succ n ih => exact ih (inv.tickDot h)

theorem beginCycle (h : P s) : P s.beginCycle := inv.dmaStep (inv.ticks _ h)

theorem nextCycle (h : P s) : P s.nextCycle := inv.beginCycle (inv.devices (inv.endCycle h) rfl)

/-! #### Accesses -/

theorem writeDiv (h : P s) : P s.writeDiv := inv.counter .divWrite 0 s.timer.tac h

theorem writeIo (n : Nat) (v : Byte) (h : P s) : P (s.writeIo n v) := by
  unfold State.writeIo
  split
  case h_1 | h_2 | h_8 | h_22 | h_24 => exact inv.devices h rfl
  case h_3 => exact inv.devices h (writeSc_devices v s)
  case h_4 => exact inv.writeDiv h
  case h_5 | h_6 => exact inv.timerBytes _ _ h
  case h_7 => exact inv.counter .tacWrite s.timer.sys _ h
  case h_9 => exact inv.sound _ _ h
  case h_10 => exact inv.writeLcdc v h
  case h_11 | h_12 | h_13 | h_15 | h_17 | h_18 | h_19 | h_20 | h_21 => exact inv.ppuBytes _ _ _ _ _ _ _ _ _ h
  case h_16 => exact inv.startDma v h
  case h_23 => exact inv.devices h (markRefused_devices _ _)
  case h_14 | h_25 => exact h

theorem cartWrite (a : Word) (v : Byte) (h : P s) : P (s.cartWrite a v) := by
  unfold State.cartWrite
  split
  · exact h
  · exact inv.devices (inv.cart _ h) (markFatal_devices _ _)

theorem routerWrite (a : Word) (v : Byte) (h : P s) : P (s.routerWrite a v) := by
  unfold State.routerWrite
  dsimp only
  repeat' split
  case h_1 => exact inv.cartWrite a v h
  case h_6 => exact inv.writeIo _ v h
  case h_8 => exact inv.devices h rfl
  all_goals first | exact h | exact inv.setRam _ v h

theorem perform (o : BusOp) (h : P s) : P (s.perform o) := by
  unfold State.perform
  split
  · exact inv.devices (inv.devices h rfl) (markFatal_devices _ _)
  · exact inv.routerWrite _ _ h

theorem performAll (os : List BusOp) (h : P s) : P (performAll os s) := by
  induction os generalizing s with
  | nil => exact h
  | cons o os ih => exact ih (inv.perform o h)

theorem service (h : P s) : P s.service := inv.performAll _ (inv.devices h rfl)

theorem readNext (a : Word) (h : P s) : P (s.readNext a) := inv.service (inv.nextCycle (inv.devices h rfl))

theorem writeNext (a : Word) (v : Byte) (h : P s) : P (s.writeNext a v) := inv.service (inv.nextCycle (inv.devices h rfl))

/-! #### Instructions -/

theorem mapCpu (g : Cpu → Cpu) (h : P s) : P (s.mapCpu g) := inv.devices h rfl

theorem setFlags (f : Byte) (h : P s) : P (s.setFlags f) := inv.devices h rfl

theorem setAcc (r : ByteResult) (h : P s) : P (s.setAcc r) := inv.devices h rfl

theorem setPc (w : Word) (h : P s) : P (s.setPc w) := inv.devices h rfl

theorem setSp (w : Word) (h : P s) : P (s.setSp w) := inv.devices h rfl

theorem pushWord (w : Word) (h : P s) : P (s.pushWord w) :=
  inv.writeNext _ _ (inv.setSp _ (inv.writeNext _ _ (inv.setSp _ h)))

theorem popWord (h : P s) : P s.popWord.2 :=
  inv.setSp _ (inv.readNext _ (inv.setSp _ (inv.readNext _ h)))

theorem call (nn : Word) (h : P s) : P (s.call nn) := inv.setPc _ (inv.pushWord _ (inv.nextCycle h))

theorem returnNow (h : P s) : P s.returnNow := inv.setPc _ (inv.nextCycle (inv.popWord h))

theorem returnFromInterrupt (h : P s) : P s.returnFromInterrupt := by
  unfold State.returnFromInterrupt
  exact inv.mapCpu _ (inv.returnNow h)

theorem fetchNext (h : P s) : P s.fetchNext := inv.setPc _ (inv.readNext _ h)

theorem enterStop (h : P s) : P s.enterStop := by
  unfold State.enterStop
  dsimp only
  split
  · exact inv.devices (inv.setPc _ h) (markRefused_devices _ _)
  · exact inv.writeDiv (inv.mapCpu _ (inv.setPc _ h))

/-- A read and a write in two successive cycles, with a change of flags between them. -/
theorem readWrite (a b : Word) (f v : Byte) (h : P s) : P (((s.readNext a).setFlags f).writeNext b v) :=
  inv.writeNext _ _ (inv.setFlags _ (inv.readNext a h))

theorem prefixedOp (op2 : Byte) (h : P s) : P (s.prefixedOp op2) := by
  unfold State.prefixedOp
  dsimp only
  split
  · split
    · exact inv.setFlags _ (inv.mapCpu _ h)
    · exact inv.setFlags _ h
    · exact inv.mapCpu _ h
    · exact inv.mapCpu _ h
  · split
    · exact inv.readWrite _ _ _ _ h
    · exact inv.setFlags _ (inv.readNext _ h)
    · exact inv.writeNext _ _ (inv.readNext _ h)
    · exact inv.writeNext _ _ (inv.readNext _ h)

/-- Every instruction keeps the property. -/
theorem run (x : Shape) (h : P s) : P (x.run s) := by
  cases x
  case copyReg | setReg | setPair | resBitReg | setBitReg => exact inv.mapCpu _ h
  case disableInterrupts | raiseFrozen => exact inv.devices h rfl
  case aluReg | aluImm | decimalAdjust | complementAcc | rotAcc => exact inv.setAcc _ h
  case setCarry | complementCarry | testBitReg => exact inv.setFlags _ h
  case incReg | decReg | rotReg => exact inv.setFlags _ (inv.mapCpu _ h)
  case jumpHl => exact inv.setPc _ h
  case nothing => exact h
  case loadReg | loadAcc => exact inv.mapCpu _ (inv.readNext _ h)
  case loadAccHl => exact inv.mapCpu _ (inv.mapCpu _ (inv.readNext _ h))
  case storeReg | storeImm | storeAcc => exact inv.writeNext _ _ h
  case storeAccHl => exact inv.mapCpu _ (inv.writeNext _ _ h)
  case storeSp => exact inv.writeNext _ _ (inv.writeNext _ _ h)
  case aluMem => exact inv.setAcc _ (inv.readNext _ h)
  case testBitMem => exact inv.setFlags _ (inv.readNext _ h)
  case incMem | decMem | rotMem => exact inv.readWrite _ _ _ _ h
  case resBitMem | setBitMem => exact inv.writeNext _ _ (inv.readNext _ h)
  case loadSpHl => exact inv.setSp _ (inv.nextCycle h)
  case incPair | decPair => exact inv.mapCpu _ (inv.nextCycle h)
  case addHl | loadHlSp => exact inv.setFlags _ (inv.mapCpu _ (inv.nextCycle h))
  case addSp => exact inv.setFlags _ (inv.setSp _ (inv.nextCycle (inv.nextCycle h)))
  case pushPair => exact inv.pushWord _ (inv.nextCycle h)
  case popPair => exact inv.mapCpu _ (inv.popWord h)
  case jump | jumpRelative => exact inv.setPc _ (inv.nextCycle h)
  case jumpIf | jumpRelativeIf => exact iteInduction (motive := P) (fun _ => inv.setPc _ (inv.nextCycle h)) (fun _ => h)
  case call | restart => exact inv.call _ h
  case callIf => exact iteInduction (motive := P) (fun _ => inv.call _ h) (fun _ => h)
  case returnNow => exact inv.returnNow h
  case returnIf => exact iteInduction (motive := P) (fun _ => inv.returnNow (inv.nextCycle h)) (fun _ => inv.nextCycle h)
  case returnFromInterrupt => exact inv.returnFromInterrupt h
  case enterHalt => exact iteInduction (motive := P) (fun _ => inv.mapCpu _ h) (fun _ => inv.mapCpu _ h)
  case enableInterrupts => exact iteInduction (motive := P) (fun _ => inv.mapCpu _ h) (fun _ => h)
  case enterStop => exact inv.enterStop h
  case prefixCb => exact inv.prefixedOp _ (inv.devices (inv.fetchNext h) rfl)

/-! #### The step -/

theorem fetchOpcode (h : P s) : P s.fetchOpcode := inv.devices (inv.service (inv.devices (t := s.schedule 0 s.cpu.pc .read) h rfl)) rfl

theorem fetchMore (n : Nat) (h : P s) : P (fetchMore n s).2 := by
  induction n generalizing s with
  | zero => exact h
  | succ n ih => exact ih (inv.fetchNext h)

theorem fetchInstr (h : P s) : P s.fetchInstr.2 := by
  have hm := inv.fetchMore (fetchedBytes s.fetchOpcode.latch - 1) (inv.fetchOpcode h)
  exact iteInduction (motive := P) (fun _ => inv.devices hm rfl) (fun _ => hm)

theorem takeInterrupt (k : Line) (h : P s) : P (s.takeInterrupt k) :=
  inv.setPc _ (inv.nextCycle (inv.pushWord _ (inv.nextCycle (inv.devices h rfl))))

theorem runInstruction {t : State} (h : P s) (hr : runInstruction s = .next t) : P t := by
  unfold Machine.runInstruction at hr
  split at hr
  case h_1 i rest _ =>
    obtain rfl := exec_next hr
    exact inv.run _ (inv.fetchInstr h)
  case h_2 => cases hr

theorem runBoundary {t : State} (h : P s) (hr : runBoundary s = .next t) : P t := by
  obtain ⟨-, rfl⟩ | ⟨-, rfl⟩ | ⟨-, ⟨k, -, rfl⟩ | ⟨-, hi⟩⟩ := runBoundary_next hr
  · exact h
  · exact inv.mapCpu _ h
  · exact inv.takeInterrupt k (inv.mapCpu _ h)
  · exact inv.runInstruction (inv.mapCpu _ h) hi

/-- A step that goes on ends with the end of a machine cycle, in a state with the property. -/
theorem step_endCycle {t : State} (h : P s) (hs : step s = .next t) : ∃ u, P u ∧ t = u.endCycle := by
  obtain ⟨u, hu, rfl⟩ := step_next hs
  exact ⟨u, inv.runBoundary (inv.beginCycle h) hu, rfl⟩

/-- Every step keeps the property. -/
theorem step {t : State} (h : P s) (hs : step s = .next t) : P t := by
  obtain ⟨u, hu, rfl⟩ := inv.step_endCycle h hs
  exact inv.endCycle hu

end DeviceInvariant

theorem devices_eq_iff {s t : State} : t.devices = s.devices ↔
    t.params = s.params ∧ t.timer = s.timer ∧ t.ppu = s.ppu ∧ t.dma = s.dma ∧ t.mem = s.mem ∧ t.sound = s.sound ∧ t.cart = s.cart ∧
      t.report = s.report := by
  simp only [State.devices, Prod.mk.injEq]

/-- What a write of LCDC does: it turns the display off, leaves it on, or begins line 0 (20_memory.md R146; 60_exceptions.md R450). -/
theorem writeLcdc_cases (v : Byte) (s : State) :
    (bitOf v 7 = false ∧ s.writeLcdc v = { s with ppu := { s.ppu with lcdc := v, ly := 0, lineDot := 0 } }) ∨
      (s.ppu.lcdOn = true ∧ s.writeLcdc v = { s with ppu := { s.ppu with lcdc := v } }) ∨
      ∃ cs r, s.writeLcdc v =
          { s with ppu := { s.ppu with lcdc := v, ly := 0, lineDot := 0, candidates := cs, samples := [] }, refused := r } ∧
        FreshList cs := by
  unfold State.writeLcdc
  dsimp only
  split
  case isTrue h => exact .inl ⟨by simpa using h, rfl⟩
  case isFalse =>
  split
  case isTrue h => exact .inr (.inl ⟨h, rfl⟩)
  case isFalse => exact .inr (.inr (startLine_candidates { s with ppu := { s.ppu with lcdc := v, ly := 0, lineDot := 0 } }))

/-! ### The canonical form of the memories -/

/-- A dot of the pipeline stores at most one shade. -/
theorem ppuDot_frame (s : State) :
    s.ppuDot.ppu.frame = s.ppu.frame ∨ ∃ k v, s.ppuDot.ppu.frame = Memory.set Config.frameBlank s.ppu.frame k v := by
  unfold State.ppuDot
  split
  · obtain ⟨q, e⟩ := lineAdvance_eq s
    obtain ⟨cs, l, n, m, r, e', -, -, hm⟩ := lineEvents_eq s.lineAdvance
    obtain ⟨q', e''⟩ := statDot_eq s.lineAdvance.lineEvents
    rw [e'', e']
    rw [e] at hm
    exact hm
  · obtain ⟨q, e⟩ := statDot_eq s
    rw [e]
    exact .inl rfl

theorem memoriesWf_invariant : DeviceInvariant State.memoriesWf where
  devices h e := by
    obtain ⟨-, -, hp, -, hm, hs, hc, hr⟩ := devices_eq_iff.1 e
    unfold State.memoriesWf
    rwa [hp, hm, hs, hc, hr]
  frameEnd {s} h := by
    have hnil : Memory.wf Config.frameBlank [] := ⟨.nil, nofun⟩
    obtain ⟨hm, hs, hc, hf, hr⟩ := h
    have hcopy : Memory.wf Config.frameBlank s.frameCopy := by unfold State.frameCopy; split <;> assumption
    unfold State.frameEnd
    split
    · exact ⟨hm, hs, hc, hf, hcopy⟩
    · exact ⟨hm, hs, hc, hf, hr⟩
  counter {s} e n c h := by
    obtain ⟨t, q, he⟩ := timerEdge_eq e { s with timer := { s.timer with sys := n, tac := c } }
    rw [he]
    exact h
  timerBytes _ _ h := h
  ppuDot {s} h := by
    obtain ⟨hm, hs, hc, hf, hr⟩ := h
    have hframe : Memory.wf Config.frameBlank s.ppuDot.ppu.frame := by
      obtain e | ⟨k, v, e⟩ := ppuDot_frame s <;> rw [e]
      · exact hf
      · exact Memory.wf_set _ _ _ hf
    obtain ⟨p, q, r, e⟩ := ppuDot_eq s
    rw [e] at hframe ⊢
    exact ⟨hm, hs, hc, hframe, hr⟩
  ppuBytes _ _ _ _ _ _ _ _ _ h := h
  writeLcdc {s} v h := by
    obtain ⟨-, e⟩ | ⟨-, e⟩ | ⟨cs, r, e, -⟩ := writeLcdc_cases v s
    all_goals
      rw [e]
      exact h
  dmaStep {s} h := by
    by_cases hd : s.dma.Copies
    · obtain ⟨f, e⟩ := dmaStep_copies hd
      obtain ⟨hm, h'⟩ := h
      rw [e]
      exact ⟨Memory.wf_set _ _ _ hm, h'⟩
    · rwa [dmaStep_idle hd]
  endCycle h := h
  startDma _ h := h
  setRam _ _ := fun ⟨hm, hrest⟩ => ⟨Memory.wf_set _ _ _ hm, hrest⟩
  sound _ _ := fun ⟨hm, hs, hrest⟩ => ⟨hm, Memory.wf_set _ _ _ hs, hrest⟩
  cart _ h := h

/-- Settles O57: every write into a memory is a `Memory.set`, which keeps the canonical form, and a frame report is a copy of the frame
buffer or empty. -/
theorem stepKeepsMemory : Obligations.StepKeepsMemory := by
  unfold Obligations.StepKeepsMemory
  intro s t h hs
  exact memoriesWf_invariant.step h hs

/-! ### The pipeline's ranges -/

/-- The invariant of the pipeline sees its counters, its list, the transfer length and LCDC. -/
theorem State.PictureInv.of_eq {s t : State} (h : s.PictureInv) (hly : t.ppu.ly = s.ppu.ly) (hdot : t.ppu.lineDot = s.ppu.lineDot)
    (hcs : t.ppu.candidates = s.ppu.candidates) (htransfer : t.ppu.transfer = s.ppu.transfer) (hlcdc : t.ppu.lcdc = s.ppu.lcdc) :
    t.PictureInv where
  line := hly ▸ h.line
  dot := hdot ▸ h.dot
  candidates := hcs ▸ h.candidates
  least := htransfer ▸ h.least
  most := htransfer ▸ h.most
  ordered := hcs ▸ h.ordered
  examined := by
    unfold Ppu.lcdOn
    rw [hlcdc, hly, hcs, hdot]
    exact h.examined

/-- The length of a transfer is in its range while the list holds at most ten entries (60_exceptions.md R441). -/
theorem transferDots_range (s : State) (h : s.ppu.candidates.length ≤ 10) : 172 ≤ s.transferDots ∧ s.transferDots ≤ 376 := by
  unfold State.transferDots
  split
  · unfold Ppu.transferDots
    omega
  · omega

/-- The pipeline after the advance of a dot, before its events: what is in the list of a line that has begun was examined in an earlier dot. -/
structure State.Advanced (s : State) : Prop where
  line : s.ppu.ly < 154
  dot : s.ppu.lineDot < 456
  room : s.ppu.candidates.length ≤ 10
  least : 172 ≤ s.ppu.transfer
  most : s.ppu.transfer ≤ 376
  ordered : s.ppu.candidates.Pairwise (fun d e => d.index < e.index)
  earlier : s.ppu.lcdOn = true → s.ppu.ly < 144 → 0 < s.ppu.lineDot → ∀ e ∈ s.ppu.candidates, 2 * e.index < s.ppu.lineDot

theorem lineAdvance_advanced {s : State} (h : s.PictureInv) : s.lineAdvance.Advanced := by
  obtain ⟨hline, hdot, hroom, hleast, hmost, hordered, hexamined⟩ := h
  obtain ⟨q, e⟩ := lineAdvance_eq s
  rw [e]
  refine ⟨?line, ?dot, hroom, hleast, hmost, hordered, ?earlier⟩
  case line => dsimp only; split_ifs <;> omega
  case dot => dsimp only; split <;> omega
  case earlier =>
    dsimp only
    split
    · exact fun _ _ hpos => absurd hpos (Nat.lt_irrefl 0)
    · exact fun hon hl _ x hx => Nat.lt_succ_of_le (hexamined hon hl x hx)

/-- The list fits after the events of a dot: the entry of this dot comes after every one examined earlier. -/
theorem ListEvent.fit {ly dot : Nat} {cs cs' : List Sprite} (h : ListEvent ly dot cs cs') (hroom : cs.length ≤ 10)
    (hordered : cs.Pairwise (fun d e => d.index < e.index))
    (hearlier : ly < 144 → 0 < dot → ∀ e ∈ cs, 2 * e.index < dot) : CandidatesFit ly dot cs' := by
  cases h
  case vblank hl => exact ⟨hroom, hordered, fun h => absurd h (Nat.not_lt.2 hl)⟩
  case fresh hcs => exact hcs.fit ly dot
  case same hpos => exact ⟨hroom, hordered, fun hl e he => (hearlier hl hpos e he).le⟩
  case append hl hpos e he hlt =>
    have hall := hearlier hl hpos
    refine ⟨by rw [List.length_append]; exact hlt, List.pairwise_append.2 ⟨hordered, List.pairwise_singleton _ _, ?_⟩, fun _ => ?_⟩
    · intro d hd x hx
      obtain rfl := List.mem_singleton.1 hx
      have := hall d hd
      omega
    · intro x hx
      obtain hx | hx := List.mem_append.1 hx
      · exact (hall x hx).le
      · obtain rfl := List.mem_singleton.1 hx
        exact he.le

theorem lineEvents_pictureInv {s : State} (h : s.Advanced) (hon : s.ppu.lcdOn = true) : s.lineEvents.PictureInv := by
  obtain ⟨cs, l, n, m, r, e, hlist, hn, -⟩ := lineEvents_eq s
  obtain ⟨hroom, hordered, hexamined⟩ := hlist.fit h.room h.ordered (h.earlier hon)
  have hrange : 172 ≤ n ∧ n ≤ 376 := by
    obtain rfl | rfl := hn
    · exact ⟨h.least, h.most⟩
    · exact transferDots_range s h.room
  rw [e]
  exact ⟨h.line, h.dot, hroom, hrange.1, hrange.2, hordered, fun _ => hexamined⟩

theorem statDot_pictureInv {s : State} (h : s.PictureInv) : s.statDot.PictureInv := by
  obtain ⟨q, e⟩ := statDot_eq s
  rw [e]
  exact h.of_eq rfl rfl rfl rfl rfl

theorem writeLcdc_pictureInv (v : Byte) {s : State} (h : s.PictureInv) : (s.writeLcdc v).PictureInv := by
  obtain ⟨hline, hdot, hroom, hleast, hmost, hordered, hexamined⟩ := h
  obtain ⟨hv, e⟩ | ⟨hon, e⟩ | ⟨cs, r, e, hcs⟩ := writeLcdc_cases v s <;> rw [e]
  · exact ⟨(by decide : 0 < 154), (by decide : 0 < 456), hroom, hleast, hmost, hordered, fun hon => absurd (hon.symm.trans hv) nofun⟩
  · exact ⟨hline, hdot, hroom, hleast, hmost, hordered, fun _ => hexamined hon⟩
  · obtain ⟨hroom, hordered, hexamined⟩ := hcs.fit 0 0
    exact ⟨(by decide : 0 < 154), (by decide : 0 < 456), hroom, hleast, hmost, hordered, fun _ => hexamined⟩

theorem pictureInv_invariant : DeviceInvariant State.PictureInv where
  devices h e := by
    obtain ⟨-, -, hp, -⟩ := devices_eq_iff.1 e
    exact h.of_eq (by rw [hp]) (by rw [hp]) (by rw [hp]) (by rw [hp]) (by rw [hp])
  frameEnd {s} h := by
    unfold State.frameEnd
    split
    · exact h.of_eq rfl rfl rfl rfl rfl
    · exact h
  counter {s} e n c h := by
    obtain ⟨t, q, he⟩ := timerEdge_eq e { s with timer := { s.timer with sys := n, tac := c } }
    rw [he]
    exact h.of_eq rfl rfl rfl rfl rfl
  timerBytes _ _ h := h.of_eq rfl rfl rfl rfl rfl
  ppuDot {s} h := by
    unfold State.ppuDot
    split
    case isTrue hon =>
      have hlcdc : s.lineAdvance.ppu.lcdOn = true := by unfold Ppu.lcdOn; rw [(lineAdvance_kept s).lcdc]; exact hon
      exact statDot_pictureInv (lineEvents_pictureInv (lineAdvance_advanced h) hlcdc)
    case isFalse => exact statDot_pictureInv h
  ppuBytes _ _ _ _ _ _ _ _ _ h := h.of_eq rfl rfl rfl rfl rfl
  writeLcdc v h := writeLcdc_pictureInv v h
  dmaStep {s} h := by
    obtain ⟨m, i, n, f, e⟩ := dmaStep_eq s
    rw [e]
    exact h.of_eq rfl rfl rfl rfl rfl
  endCycle h := h.of_eq rfl rfl rfl rfl rfl
  startDma _ h := h.of_eq rfl rfl rfl rfl rfl
  setRam _ _ h := h.of_eq rfl rfl rfl rfl rfl
  sound _ _ h := h.of_eq rfl rfl rfl rfl rfl
  cart _ h := h.of_eq rfl rfl rfl rfl rfl

/-! ### The timer's gate bit -/

/-- In the default model every action of the timer stores the gated bit, whatever the stored bit was (60_exceptions.md R460). -/
theorem timerEdge_timerInv (e : Config.TimerEvent) (s : State) : (s.timerEdge e).TimerInv := by
  intro hp
  rw [(timerEdge_kept e s).params] at hp
  unfold State.timerEdge
  rw [hp]
  unfold State.gateEdge State.timaIncrement
  dsimp only
  repeat' split
  all_goals rfl

theorem timerInv_invariant : DeviceInvariant State.TimerInv where
  devices h e := by
    obtain ⟨hp, ht, -⟩ := devices_eq_iff.1 e
    unfold State.TimerInv
    rwa [hp, ht]
  frameEnd {s} h := by unfold State.frameEnd; split <;> exact h
  counter e _ _ _ := timerEdge_timerInv e _
  timerBytes _ _ h := h
  ppuDot {s} h := by
    obtain ⟨p, q, r, e⟩ := ppuDot_eq s
    rw [e]
    exact h
  ppuBytes _ _ _ _ _ _ _ _ _ h := h
  writeLcdc {s} v h := by
    obtain ⟨p, r, e⟩ := writeLcdc_eq v s
    rw [e]
    exact h
  dmaStep {s} h := by
    obtain ⟨m, i, n, f, e⟩ := dmaStep_eq s
    rw [e]
    exact h
  endCycle h := h
  startDma _ h := h
  setRam _ _ h := h
  sound _ _ h := h
  cart _ h := h

/-! ### The transfer's index -/

/-- The index of a transfer stays in its range, in every machine cycle (20_memory.md R130). -/
def State.DmaInRange (s : State) : Prop := s.dma.index ≤ 160

theorem dmaInRange_invariant : DeviceInvariant State.DmaInRange where
  devices h e := by
    obtain ⟨-, -, -, hd, -⟩ := devices_eq_iff.1 e
    unfold State.DmaInRange
    rwa [hd]
  frameEnd {s} h := by unfold State.frameEnd; split <;> exact h
  counter {s} e n c h := by
    obtain ⟨t, q, he⟩ := timerEdge_eq e { s with timer := { s.timer with sys := n, tac := c } }
    rw [he]
    exact h
  timerBytes _ _ h := h
  ppuDot {s} h := by
    obtain ⟨p, q, r, e⟩ := ppuDot_eq s
    rw [e]
    exact h
  ppuBytes _ _ _ _ _ _ _ _ _ h := h
  writeLcdc {s} v h := by
    obtain ⟨p, r, e⟩ := writeLcdc_eq v s
    rw [e]
    exact h
  dmaStep {s} h := by
    by_cases hd : s.dma.Copies
    · obtain ⟨f, e⟩ := dmaStep_copies hd
      rw [e]
      exact hd.2
    · rwa [dmaStep_idle hd]
  endCycle h := h
  startDma _ _ := Nat.zero_le 160
  setRam _ _ h := h
  sound _ _ h := h
  cart _ h := h

/-- The end of a machine cycle ends a transfer whose bytes are all copied (20_memory.md R130). -/
theorem endCycle_dmaInv {s : State} (h : s.DmaInRange) : s.endCycle.DmaInv := by
  refine ⟨h, fun hactive => ?_⟩
  rw [endCycle_dma, Bool.and_eq_true, bne_iff_ne] at hactive
  exact Nat.lt_of_le_of_ne h hactive.2

/-- Settles O60: the three invariants are kept by every part of a step; that of the DMA holds in the stronger form once the last machine cycle
has ended. -/
theorem stepKeepsDevices : Obligations.StepKeepsDevices := by
  unfold Obligations.StepKeepsDevices
  intro s t hp hd ht hs
  obtain ⟨u, hu, rfl⟩ := dmaInRange_invariant.step_endCycle hd.1 hs
  exact ⟨pictureInv_invariant.step hp hs, endCycle_dmaInv hu, timerInv_invariant.step ht hs⟩

end Sys2Proof.Machine

/-! SUPPORT. The statements on accesses and on the router (20_memory.md R101 to R122): in which cycle an access falls, what a machine cycle and a
router write leave alone, the blocked windows and the mirror, plain storage. Then the OAM DMA (R128 to R134) and the button events
(60_exceptions.md R465). -/

namespace Sys2Proof.Machine

/-! ### Accesses and machine cycles -/

/-- Settles O7, by the equations of `readNext` and `writeNext` with an empty queue. -/
theorem accessesFallInTheirCycle : Obligations.AccessesFallInTheirCycle := by
  unfold Obligations.AccessesFallInTheirCycle
  intro a v s h
  exact ⟨readNext_eq_afterRead a s h, writeNext_eq a v s h⟩

/-- Without a DMA a machine cycle writes no RAM (20_memory.md R132). -/
theorem nextCycle_mem_idle (s : State) (h : s.dma.active = false) : s.nextCycle.mem = s.mem := by
  obtain ⟨u, hu, e⟩ := nextCycle_split s
  have hidle : ¬ u.dma.Copies := by
    unfold Dma.Copies
    rw [hu.dma]
    show ¬ ((s.dma.active && _) = true ∧ _)
    simp [h]
  rw [e, dmaStep_idle hidle, hu.mem]
  rfl

/-- Settles O8: the peripherals' dots keep what `Kept` names, and the DMA step changes OAM, its own index and no register. -/
theorem cyclesKeep : Obligations.CyclesKeep := by
  unfold Obligations.CyclesKeep
  intro s hwf
  have hram (k : Nat) (hk : ¬ inOam k) : s.nextCycle.ram k = s.ram k := nextCycle_ram_idle s hwf k (absurd · hk)
  refine ⟨nextCycle_cpu s, nextCycle_awake s, hram, nextCycle_mem_idle s, nextCycle_sched s, ?_⟩
  obtain ⟨u, hu, e⟩ := nextCycle_split s
  obtain ⟨m, i, n, f, hd⟩ := dmaStep_eq u
  rw [e, hd]
  have hreg : u.dma.reg = s.dma.reg := by rw [hu.dma]; rfl
  exact ⟨hu.cart, hu.sound, hu.svbk, hu.key1, hu.enable, hu.tma, hu.tac, hu.sel, hu.lcdc, hu.statSel, hu.scy, hu.scx, hu.lyc, hu.bgp,
    hu.obp0, hu.obp1, hu.wy, hu.wx, hreg, hu.fast, hu.clock⟩

/-! ### The router -/

/-- A write that reaches neither the I/O page nor IE changes RAM, the cartridge or the fatal mark (20_memory.md R102). -/
theorem routerWrite_storage {a : Word} (v : Byte) (s : State) (hio : owner (fold a.toNat) ≠ .io) (hie : owner (fold a.toNat) ≠ .ie) :
    ∃ m c f, s.routerWrite a v = { s with mem := m, cart := c, fatal := f } := by
  unfold State.routerWrite
  dsimp only
  repeat' split
  case h_1 =>
    obtain ⟨c, f, e⟩ := cartWrite_eq a v s
    exact ⟨s.mem, c, f, e⟩
  case h_6 h => exact absurd h hio
  case h_8 h => exact absurd h hie
  all_goals exact ⟨_, _, _, rfl⟩

/-- Settles O9, from what each owner's write can change. -/
theorem writeFrame : Obligations.WriteFrame := by
  unfold Obligations.WriteFrame
  intro a v s hwf
  refine ⟨routerWrite_cpu a v s, routerWrite_sched a v s, routerWrite_ram_other a v s hwf, fun hio hie => ?_⟩
  obtain ⟨m, c, f, e⟩ := routerWrite_storage v s hio hie
  rw [e]
  exact ⟨rfl, rfl, rfl, rfl, rfl, rfl, rfl, rfl, rfl⟩

section Owners

variable {a : Word} (s : State) (v : Byte)

theorem routerRead_workRam (h : owner (fold a.toNat) = .workRam) : s.routerRead a = s.ram (s.ramKey (fold a.toNat)) := by
  simp only [State.routerRead, h]

theorem routerWrite_workRam (h : owner (fold a.toNat) = .workRam) : s.routerWrite a v = s.setRam (s.ramKey (fold a.toNat)) v := by
  simp only [State.routerWrite, h]

theorem routerRead_videoRam (h : owner (fold a.toNat) = .videoRam) :
    s.routerRead a = if s.vramBlocked then 0xFF else s.ram (s.ramKey (fold a.toNat)) := by
  simp only [State.routerRead, h]

theorem routerWrite_videoRam (h : owner (fold a.toNat) = .videoRam) :
    s.routerWrite a v = if s.vramBlocked then s else s.setRam (s.ramKey (fold a.toNat)) v := by
  simp only [State.routerWrite, h]

theorem routerRead_oam (h : owner (fold a.toNat) = .oam) :
    s.routerRead a = if s.oamBlocked then 0xFF else s.ram (s.ramKey (fold a.toNat)) := by
  simp only [State.routerRead, h]

theorem routerWrite_oam (h : owner (fold a.toNat) = .oam) :
    s.routerWrite a v = if s.oamBlocked then s else s.setRam (s.ramKey (fold a.toNat)) v := by
  simp only [State.routerWrite, h]

theorem routerRead_hram (h : owner (fold a.toNat) = .hram) : s.routerRead a = s.ram (s.ramKey (fold a.toNat)) := by
  simp only [State.routerRead, h]

theorem routerWrite_hram (h : owner (fold a.toNat) = .hram) : s.routerWrite a v = s.setRam (s.ramKey (fold a.toNat)) v := by
  simp only [State.routerWrite, h]

theorem routerRead_unusable (h : owner (fold a.toNat) = .unusable) : s.routerRead a = 0x00 := by
  simp only [State.routerRead, h]

theorem routerWrite_unusable (h : owner (fold a.toNat) = .unusable) : s.routerWrite a v = s := by
  simp only [State.routerWrite, h]

theorem routerRead_ie (h : owner (fold a.toNat) = .ie) : s.routerRead a = s.irq.enable := by
  simp only [State.routerRead, h]

theorem routerWrite_ie (h : owner (fold a.toNat) = .ie) :
    s.routerWrite a v = { s with irq := { s.irq with enable := v } } := by
  simp only [State.routerWrite, h]

end Owners

/-- Video RAM is blocked in LCD_TRANSFER with the display enabled (20_memory.md R104). -/
theorem vramBlocked_of_transfer {s : State} (hon : s.ppu.lcdOn = true) (hmode : s.ppu.mode = .lcdTransfer) : s.vramBlocked = true := by
  unfold State.vramBlocked
  rw [hon, hmode]
  rfl

theorem oamBlocked_of_dma {s : State} (h : s.dma.active = true) : s.oamBlocked = true := by
  unfold State.oamBlocked
  rw [h, Bool.true_or]

/-- OAM is blocked under a DMA, and in OAM_SEARCH and LCD_TRANSFER with the display enabled (20_memory.md R108). -/
theorem oamBlocked_of_window {s : State}
    (h : s.dma.active = true ∨ (s.ppu.lcdOn = true ∧ (s.ppu.mode = .oamSearch ∨ s.ppu.mode = .lcdTransfer))) :
    s.oamBlocked = true := by
  obtain h | ⟨hon, h | h⟩ := h
  · exact oamBlocked_of_dma h
  all_goals
    unfold State.oamBlocked
    rw [hon, h]
    exact Bool.or_true _

/-- Settles O41: each window is the range of one owner, and an address of the mirror folds where the address 0x2000 below it folds. -/
theorem routerWindows : Obligations.RouterWindows := by
  unfold Obligations.RouterWindows
  intro a v s
  refine ⟨fun h1 h2 => ?mirror, fun h1 h2 hon hmode => ?vram, fun h1 h2 hb => ?oam, fun h1 h2 => ?unusable⟩
  case mirror =>
    have hsub : (a - 0x2000).toNat = a.toNat - 0x2000 := by bv_omega
    have hfold : fold (a - 0x2000).toNat = fold a.toNat := by
      rw [hsub, fold_mirror h1 h2, fold_low (by omega)]
    have howner : owner (fold a.toNat) = .workRam := by
      rw [fold_mirror h1 h2]
      exact owner_workRam (by omega) (by omega)
    have howner' : owner (fold (a - 0x2000).toNat) = .workRam := hfold ▸ howner
    rw [routerRead_workRam s howner, routerRead_workRam s howner', routerWrite_workRam s v howner, routerWrite_workRam s v howner', hfold]
    exact ⟨rfl, rfl⟩
  case vram =>
    have howner : owner (fold a.toNat) = .videoRam := by
      rw [fold_low (by omega)]
      exact owner_videoRam h1 h2
    rw [routerRead_videoRam s howner, routerWrite_videoRam s v howner, vramBlocked_of_transfer hon hmode]
    exact ⟨rfl, rfl⟩
  case oam =>
    have howner : owner (fold a.toNat) = .oam := by
      rw [fold_high h1]
      exact owner_oam h1 h2
    rw [routerRead_oam s howner, routerWrite_oam s v howner, oamBlocked_of_window hb]
    exact ⟨rfl, rfl⟩
  case unusable =>
    have howner : owner (fold a.toNat) = .unusable := by
      rw [fold_high (by omega)]
      exact owner_unusable h1 h2
    exact ⟨routerRead_unusable s howner, routerWrite_unusable s v howner⟩

/-! ### Plain storage -/

theorem fold_lt (a : Word) : fold a.toNat < 0x10000 := by
  have := a.isLt
  unfold fold
  split <;> omega

/-- Different addresses have their bytes in different places, the banks of work RAM among them (20_memory.md R106). -/
theorem ramKey_ne (s : State) {m n : Nat} (hm : m < 0x10000) (hn : n < 0x10000) (h : m ≠ n) : s.ramKey m ≠ s.ramKey n := by
  unfold State.ramKey
  split <;> split <;> omega

/-- Only the last address belongs to IE. -/
theorem eq_of_owner_ie {n : Nat} (hn : n < 0x10000) (h : owner n = .ie) : n = 0xFFFF := by
  by_contra hne
  unfold owner at h
  repeat' split at h
  case isFalse => omega
  all_goals cases h

/-- A stored byte of RAM is seen only at the address whose place it has: nothing else reads RAM. -/
theorem setRam_routerRead_other {b : Word} {s : State} (hwf : Memory.wf Config.ramBlank s.mem) {k : Nat} (hk : s.ramKey (fold b.toNat) ≠ k)
    (v : Byte) : (s.setRam k v).routerRead b = s.routerRead b := by
  have hram : (s.setRam k v).ram (s.ramKey (fold b.toNat)) = s.ram (s.ramKey (fold b.toNat)) := Memory.get_set_other _ _ _ _ hwf hk
  cases h : owner (fold b.toNat)
  case videoRam => rw [routerRead_videoRam _ h, routerRead_videoRam s h, ← hram]; rfl
  case workRam => rw [routerRead_workRam _ h, routerRead_workRam s h, ← hram]; rfl
  case oam => rw [routerRead_oam _ h, routerRead_oam s h, ← hram]; rfl
  case hram => rw [routerRead_hram _ h, routerRead_hram s h, ← hram]; rfl
  case unusable => rw [routerRead_unusable _ h, routerRead_unusable s h]
  case ie => rw [routerRead_ie _ h, routerRead_ie s h]; rfl
  case cart | io => simp only [State.routerRead, h]; rfl

/-- IE is seen only at its own address. -/
theorem setEnable_routerRead_other {b : Word} (s : State) (h : owner (fold b.toNat) ≠ .ie) (v : Byte) :
    State.routerRead { s with irq := { s.irq with enable := v } } b = s.routerRead b := by
  unfold State.routerRead
  dsimp only
  split
  case h_8 hb => exact absurd hb h
  all_goals rfl

/-- The plain storage of the router: work RAM, HRAM, and video RAM and OAM where they are not blocked (20_memory.md R102). -/
def State.StoresAt (s : State) (a : Word) : Prop :=
  owner (fold a.toNat) = .workRam ∨ owner (fold a.toNat) = .hram ∨ (owner (fold a.toNat) = .videoRam ∧ s.vramBlocked = false) ∨
    (owner (fold a.toNat) = .oam ∧ s.oamBlocked = false)

theorem State.StoresAt.routerWrite {a : Word} {s : State} (h : s.StoresAt a) (v : Byte) :
    s.routerWrite a v = s.setRam (s.ramKey (fold a.toNat)) v := by
  obtain h | h | ⟨h, hb⟩ | ⟨h, hb⟩ := h
  · exact routerWrite_workRam s v h
  · exact routerWrite_hram s v h
  · rw [routerWrite_videoRam s v h, hb]; rfl
  · rw [routerWrite_oam s v h, hb]; rfl

theorem State.StoresAt.routerRead {a : Word} {s : State} (h : s.StoresAt a) : s.routerRead a = s.ram (s.ramKey (fold a.toNat)) := by
  obtain h | h | ⟨h, hb⟩ | ⟨h, hb⟩ := h
  · exact routerRead_workRam s h
  · exact routerRead_hram s h
  · rw [routerRead_videoRam s h, hb]; rfl
  · rw [routerRead_oam s h, hb]; rfl

/-- Settles O42: plain storage keeps each address's byte in a place of its own, and IE has the last address to itself. -/
theorem readAfterWrite : Obligations.ReadAfterWrite := by
  unfold Obligations.ReadAfterWrite
  intro a b v s hwf o ho
  have stored (h : s.StoresAt a) : (s.routerWrite a v).routerRead a = v ∧
      (fold b.toNat ≠ fold a.toNat → owner (fold b.toNat) ≠ .io → (s.routerWrite a v).routerRead b = s.routerRead b) := by
    have hafter : (s.setRam (s.ramKey (fold a.toNat)) v).StoresAt a := h
    rw [h.routerWrite v]
    refine ⟨?_, fun hne _ => setRam_routerRead_other hwf (ramKey_ne s (fold_lt b) (fold_lt a) hne) v⟩
    rw [hafter.routerRead]
    exact Memory.get_set_self _ _ _ hwf
  obtain h | h | h | h | h := ho
  · exact stored (.inl h)
  · exact stored (.inr (.inl h))
  · rw [routerWrite_ie s v h]
    refine ⟨routerRead_ie _ h, fun hne _ => setEnable_routerRead_other s (fun hb => hne ?_) v⟩
    rw [eq_of_owner_ie (fold_lt b) hb, eq_of_owner_ie (fold_lt a) h]
  · exact stored (.inr (.inr (.inl h)))
  · exact stored (.inr (.inr (.inr h)))

/-! ### The OAM DMA -/

theorem dmaRead_cart {a : Word} (s : State) (h : a.toNat < 0x8000 ∨ (0xA000 ≤ a.toNat ∧ a.toNat < 0xC000)) :
    s.dmaRead a = s.cartRead a := by
  have howner : owner (fold a.toNat) = .cart := by
    rw [fold_low (by omega)]
    unfold owner
    split_ifs <;> first | rfl | omega
  simp only [State.dmaRead, howner]

/-- A DMA reads video and work RAM whether blocked or not, the mirror folded (20_memory.md R131). -/
theorem dmaRead_ram {a : Word} (s : State) (h : (0x8000 ≤ a.toNat ∧ a.toNat < 0xA000) ∨ (0xC000 ≤ a.toNat ∧ a.toNat < 0xFE00)) :
    s.dmaRead a = s.ram (s.ramKey (fold a.toNat)) := by
  have howner : owner (fold a.toNat) = .videoRam ∨ owner (fold a.toNat) = .workRam := by
    obtain ⟨h1, h2⟩ | ⟨h1, h2⟩ := h
    · rw [fold_low (by omega)]
      exact .inl (owner_videoRam h1 h2)
    · refine .inr ?_
      unfold fold
      split <;> exact owner_workRam (by omega) (by omega)
  obtain h | h := howner <;> simp only [State.dmaRead, h]

/-- From 0xFE00 up nothing belongs to the cartridge, video RAM or work RAM (20_memory.md R101). -/
theorem owner_high {n : Nat} (h : 0xFE00 ≤ n) : owner n ≠ .cart ∧ owner n ≠ .videoRam ∧ owner n ≠ .workRam := by
  unfold owner
  rw [if_neg (by omega), if_neg (by omega), if_neg (by omega), if_neg (by omega)]
  split_ifs <;> decide

/-- A DMA source from 0xFE00 up gives a free byte (20_memory.md R131; log entry 6). -/
theorem dmaRead_high {a : Word} (s : State) (h : 0xFE00 ≤ a.toNat) : s.dmaRead a = Config.dmaHighByte s.freeCount := by
  obtain ⟨hcart, hvideo, hwork⟩ := owner_high h
  unfold State.dmaRead
  rw [fold_high h]
  dsimp only
  split
  case h_1 ho => exact absurd ho hcart
  case h_2 ho => exact absurd ho hvideo
  case h_3 ho => exact absurd ho hwork
  all_goals rfl

/-- What a DMA reads is the cartridge's, RAM's, the work RAM bank's and the free counter's affair. -/
theorem dmaRead_congr {s t : State} (hcart : t.cart = s.cart) (hmem : t.mem = s.mem) (hsvbk : t.svbk = s.svbk)
    (hfree : t.freeCount = s.freeCount) (a : Word) : t.dmaRead a = s.dmaRead a := by
  unfold State.dmaRead State.cartRead State.rom State.ram State.ramKey State.wramBank
  rw [hcart, hmem, hsvbk, hfree]

/-- The i-th byte of a transfer from source page v, read in the state s (20_memory.md R131). -/
def State.dmaSource (s : State) (v : Byte) (i : Nat) : Byte :=
  if v.toNat < 0x80 ∨ (0xA0 ≤ v.toNat ∧ v.toNat < 0xC0) then s.cartRead (BitVec.ofNat 16 (256 * v.toNat + i))
  else if v.toNat < 0xFE then s.ram (s.ramKey (fold (256 * v.toNat + i)))
  else Config.dmaHighByte (s.freeCount + i)

/-- The transfer that a write of v in the state s started has copied n bytes, and the state is now t. -/
structure DmaProgress (v : Byte) (s : State) (n : Nat) (t : State) : Prop where
  dma : t.dma = { reg := v, active := true, src := pair v 0, index := n }
  cart : t.cart = s.cart
  svbk : t.svbk = s.svbk
  wf : Memory.wf Config.ramBlank t.mem
  free : 0xFE ≤ v.toNat → t.freeCount = s.freeCount + n
  copied : ∀ i < n, t.ram (0xFE00 + i) = s.dmaSource v i
  other : ∀ k, (∀ i < n, k ≠ 0xFE00 + i) → t.ram k = s.ram k

/-- The address of byte i of page v. -/
theorem dmaAddress {v : Byte} {i : Nat} : pair v 0 + BitVec.ofNat 16 i = BitVec.ofNat 16 (256 * v.toNat + i) := by
  unfold pair
  rw [← BitVec.ofNat_add]
  congr 1
  simp only [BitVec.ofNat_eq_ofNat, BitVec.toNat_ofNat]
  omega

theorem dmaAddress_toNat {v : Byte} {i : Nat} (hi : i < 160) : (pair v 0 + BitVec.ofNat 16 i).toNat = 256 * v.toNat + i := by
  have := v.isLt
  rw [dmaAddress, BitVec.toNat_ofNat]
  omega

/-- RAM that a DMA reads is not OAM, where it writes. -/
theorem ramKey_fold_low (s : State) {n : Nat} (h : n < 0xFE00) (i : Nat) (hi : i < 160) : s.ramKey (fold n) ≠ 0xFE00 + i := by
  have hfold : fold n < 0xE000 := by unfold fold; split <;> omega
  unfold State.ramKey
  split <;> omega

/-- The next byte that is read is the source's, whatever has been copied so far. -/
theorem DmaProgress.dmaRead {v : Byte} {s t : State} {n : Nat} (h : DmaProgress v s n t) (hn : n < 160) :
    t.dmaRead (pair v 0 + BitVec.ofNat 16 n) = s.dmaSource v n := by
  have haddr := dmaAddress_toNat (v := v) hn
  unfold State.dmaSource
  split_ifs with hcart hlow
  · rw [dmaRead_cart t (by omega), dmaAddress]
    unfold State.cartRead State.rom
    rw [h.cart]
  · rw [dmaRead_ram t (by omega), haddr, h.other _ fun i hi => ramKey_fold_low t (by omega) i (by omega)]
    unfold State.ramKey State.wramBank
    rw [h.svbk]
  · rw [dmaRead_high t (by omega), h.free (by omega)]

theorem startDma_progress (v : Byte) (s : State) (hwf : Memory.wf Config.ramBlank s.mem) : DmaProgress v s 0 (s.startDma v) where
  dma := rfl
  cart := rfl
  svbk := rfl
  wf := hwf
  free _ := rfl
  copied _ := nofun
  other _ _ := rfl

/-- A machine cycle of a transfer that has bytes left copies the next one (20_memory.md R130). -/
theorem DmaProgress.nextCycle {v : Byte} {s t : State} {n : Nat} (h : DmaProgress v s n t) (hn : n < 160) :
    DmaProgress v s (n + 1) t.nextCycle := by
  obtain ⟨u, hu, e⟩ := nextCycle_split t
  have hdma : u.dma = { reg := v, active := true, src := pair v 0, index := n } := by
    rw [hu.dma]
    show { t.dma with active := t.dma.active && t.dma.index != 160 } = _
    rw [h.dma]
    simp only [Bool.true_and, Dma.mk.injEq, bne_iff_ne, true_and, and_true]
    omega
  have hcart : u.cart = t.cart := hu.cart
  have hmem : u.mem = t.mem := hu.mem
  have hsvbk : u.svbk = t.svbk := hu.svbk
  have hfree : u.freeCount = t.freeCount := hu.freeCount
  have hcopies : u.dma.Copies := by rw [hdma]; exact ⟨rfl, hn⟩
  obtain ⟨f, hd⟩ := dmaStep_copies hcopies
  rw [hdma] at hd
  dsimp only at hd
  rw [dmaRead_congr hcart hmem hsvbk hfree, h.dmaRead hn, dmaAddress_toNat hn, hmem, hfree] at hd
  rw [e, hd]
  have hself := Memory.get_set_self t.mem (0xFE00 + n) (s.dmaSource v n) h.wf
  have hother (k : Nat) (hk : k ≠ 0xFE00 + n) := Memory.get_set_other t.mem _ _ (s.dmaSource v n) h.wf hk
  refine ⟨rfl, hcart.trans h.cart, hsvbk.trans h.svbk, Memory.wf_set _ _ _ h.wf, fun hv => ?free, fun i hi => ?copied, fun k hk => ?other⟩
  case free =>
    have := h.free hv
    dsimp only
    rw [if_pos (by omega), this, Nat.add_assoc]
  case copied =>
    obtain rfl | hne := eq_or_ne i n
    · exact hself
    · exact (hother _ (by omega)).trans (h.copied i (by omega))
  case other =>
    exact (hother k (hk n (Nat.lt_succ_self n))).trans (h.other k fun i hi => hk i (Nat.lt_succ_of_lt hi))

theorem cycles_succ (n : Nat) (s : State) : State.cycles (n + 1) s = (State.cycles n s).nextCycle := rfl

theorem cycles_progress {v : Byte} {s t : State} (h : DmaProgress v s 0 t) (n : Nat) (hn : n ≤ 160) : DmaProgress v s n (State.cycles n t) := by
  induction n with
  | zero => exact h
  | succ n ih => exact (ih (Nat.le_of_succ_le hn)).nextCycle hn

/-- A transfer whose bytes are all copied ends with its machine cycle (20_memory.md R130). -/
theorem nextCycle_dma_ends {s : State} (h : s.dma.index = 160) : s.nextCycle.dma.active = false := by
  obtain ⟨u, hu, e⟩ := nextCycle_split s
  obtain ⟨m, i, n, f, hd⟩ := dmaStep_eq u
  rw [e, hd]
  show u.dma.active = false
  rw [hu.dma]
  show (s.dma.active && s.dma.index != 160) = false
  simp [h]

/-- Settles O44, by induction on the machine cycles: each copies the next byte of the source, which no earlier copy has changed. -/
theorem dmaCopies : Obligations.DmaCopies := by
  unfold Obligations.DmaCopies
  intro v s hwf t source
  have ht : t = s.startDma v := routerWrite_io v s (by decide) (by decide)
  have hprogress : DmaProgress v s 0 t := ht ▸ startDma_progress v s hwf
  refine ⟨fun n hn => ?_, ?_⟩
  · have h := cycles_progress hprogress n hn
    have hactive : (State.cycles n t).dma.active = true := by rw [h.dma]
    refine ⟨hactive, by rw [h.dma], oamBlocked_of_dma hactive, fun i _ => ?_⟩
    split
    case isTrue hi => exact h.copied i hi
    case isFalse hi => exact h.other _ fun j hj => by omega
  · have h := cycles_progress hprogress 160 (Nat.le_refl 160)
    rw [cycles_succ 160]
    exact nextCycle_dma_ends (by rw [h.dma])

/-! ### Button events -/

/-- What an event does to the joypad, the core and IF. -/
theorem buttonEvent_eq (e : ButtonEvent) (s : State) :
    s.buttonEvent e =
      { s with
        joypad := s.joypad.setButton e.button e.pressed
        cpu := { s.cpu with stopped := s.cpu.stopped && !e.pressed }
        irq := { s.irq with flags :=
          if s.joypadRequests (s.joypad.setButton e.button e.pressed) then s.irq.flags ||| 16 else s.irq.flags } } := by
  unfold State.buttonEvent
  dsimp only
  split <;> rfl

/-- Some bit of a nibble goes from 1 to 0. -/
theorem nibble_falls_iff (m n : BitVec 4) : (m &&& ~~~n != 0) = true ↔ ∃ i < 4, m.getLsbD i = true ∧ n.getLsbD i = false := by
  revert m n
  decide +kernel

/-- The group of a button, by its select bit of P1, and its bit in the nibble (20_memory.md R141). -/
def Button.place : Button → Nat × Nat
  | .right => (0, 0) | .left => (0, 1) | .up => (0, 2) | .down => (0, 3)
  | .a => (1, 0) | .b => (1, 1) | .select => (1, 2) | .start => (1, 3)

/-- The one pressed button reads 0 in its bit where its group is selected (0 selects); every other bit reads 1. -/
theorem nibble_one_pressed {j : Joypad} (hdirs : j.dirs = 0xF) (hacts : j.acts = 0xF) (w : Button) : ∀ i < 4,
    (j.setButton w true).nibble.getLsbD i = !(i == w.place.2 && !j.sel.getLsbD w.place.1) := by
  obtain ⟨sel, dirs, acts⟩ := j
  obtain rfl : dirs = 0xF := hdirs
  obtain rfl : acts = 0xF := hacts
  revert sel
  cases w <;> decide

/-- Settles O53: the request is read off the bits of the nibble before and after, and the pressed button's nibble is evaluated for each
button and selection. -/
theorem buttonEvents : Obligations.ButtonEvents := by
  unfold Obligations.ButtonEvents
  intro e s t
  have ht := buttonEvent_eq e s
  refine ⟨fun hmodel => ?request, fun hp => ?press, fun hp => ?release, fun hp hdirs hacts => ?bits⟩
  case request =>
    have hreq : s.joypadRequests (s.joypad.setButton e.button e.pressed) = true ↔
        ∃ i < 4, s.joypad.nibble.getLsbD i = true ∧ t.joypad.nibble.getLsbD i = false := by
      show _ ↔ ∃ i < 4, _ ∧ (s.buttonEvent e).joypad.nibble.getLsbD i = false
      rw [ht]
      unfold State.joypadRequests
      rw [hmodel]
      exact nibble_falls_iff _ _
    show (s.buttonEvent e).irq.flags = _
    rw [ht]
    exact if_congr hreq rfl rfl
  case press =>
    show (s.buttonEvent e).cpu.stopped = false
    rw [ht, hp]
    exact Bool.and_false _
  case release =>
    show (s.buttonEvent e).cpu.stopped = _
    rw [ht, hp]
    exact Bool.and_true _
  case bits =>
    have hbits := nibble_one_pressed hdirs hacts e.button
    show ∀ i < 4, (s.buttonEvent e).joypad.nibble.getLsbD i = _
    rw [ht, hp]
    exact hbits

end Sys2Proof.Machine

/-! SUPPORT. The statements on encoding (30_encoding.md R170 to R185) and on what runs the decoded bytes: the byte 0xCB alone, an undefined opcode,
the step. The two maps are read against the encoder once, row by row, and the decoder is inverted once; the round trips follow. -/

namespace Sys2Proof.Machine

/-! ### The maps against the encoder -/

/-- The bytes that follow the opcode in the encoding of `entryInstr e n w` (30_encoding.md R171). -/
def operandBytes (e : Entry) (n : Byte) (w : Word) : List Byte :=
  match e with
  | .op _ => []
  | .imm8 _ => [n]
  | .imm16 _ => [lo w, hi w]
  | .stop => [0x00]
  | .cb => []

/-- Each row of the primary map is encoded with the opcode it stands at (30_encoding.md R179). -/
theorem primaryEntry_encode (op : Byte) :
    ∃ e, primaryEntry op = some e ∧ ∀ n w, encode (entryInstr e n w) = op :: operandBytes e n w := by
  revert op
  apply forall_byte
  intro n
  fin_cases n <;> exact ⟨_, rfl, fun n w => rfl⟩

/-- Each row of the prefixed map is encoded with 0xCB and the byte it stands at (30_encoding.md R183, R185). -/
theorem prefixedInstr_encode (op2 : Byte) : ∃ j, prefixedInstr op2 = some j ∧ encode j = [0xCB, op2] := by
  revert op2
  apply forall_byte
  intro n
  fin_cases n <;> exact ⟨_, rfl, rfl⟩

theorem encode_entryInstr {op : Byte} {e : Entry} (he : primaryEntry op = some e) (n : Byte) (w : Word) :
    encode (entryInstr e n w) = op :: operandBytes e n w := by
  obtain ⟨e', he', henc⟩ := primaryEntry_encode op
  obtain rfl : e' = e := Option.some.inj (he'.symm.trans he)
  exact henc n w

theorem encode_prefixedInstr {op2 : Byte} {j : Instr} (hj : prefixedInstr op2 = some j) : encode j = [0xCB, op2] := by
  obtain ⟨j', hj', henc⟩ := prefixedInstr_encode op2
  obtain rfl : j' = j := Option.some.inj (hj'.symm.trans hj)
  exact henc

/-! ### What the decoder answers -/

/-- `Decoded bs i rest`: by the entry of the first byte, i stands at the front of bs and rest follows it (30_encoding.md R171, R181, R184). The
decoder answers exactly this: `Decoded.decode_eq`, `decoded_of_decode`. -/
inductive Decoded : List Byte → Instr → List Byte → Prop where
  | op {op : Byte} {i : Instr} (he : primaryEntry op = some (.op i)) (rest : List Byte) : Decoded (op :: rest) i rest
  | imm8 {op : Byte} {f : Byte → Instr} (he : primaryEntry op = some (.imm8 f)) (n : Byte) (rest : List Byte) :
      Decoded (op :: n :: rest) (f n) rest
  | imm16 {op : Byte} {f : Word → Instr} (he : primaryEntry op = some (.imm16 f)) (w : Word) (rest : List Byte) :
      Decoded (op :: lo w :: hi w :: rest) (f w) rest
  | stop {op : Byte} (he : primaryEntry op = some .stop) (tail : List Byte) : Decoded (op :: tail) .stop (tail.drop 1)
  | bare {op : Byte} (he : primaryEntry op = some .cb) : Decoded [op] .prefixCb []
  | prefixed {op op2 : Byte} {i : Instr} (he : primaryEntry op = some .cb) (hj : prefixedInstr op2 = some i) (rest : List Byte) :
      Decoded (op :: op2 :: rest) i rest

theorem Decoded.decode_eq {bs rest : List Byte} {i : Instr} (h : Decoded bs i rest) : decode bs = .ok (i, rest) := by
  cases h with
  | op he | imm8 he | stop he | bare he => simp only [decode, he]
  | imm16 he => simp only [decode, he, pair_hi_lo]
  | prefixed he hj => simp only [decode, he, hj]

theorem decoded_of_decode {bs rest : List Byte} {i : Instr} (h : decode bs = .ok (i, rest)) : Decoded bs i rest := by
  cases bs with
  | nil => cases h
  | cons op bs =>
  obtain ⟨e, he, -⟩ := primaryEntry_encode op
  simp only [decode, he] at h
  cases e with
  | op j => cases h; exact .op he rest
  | stop => cases h; exact .stop he bs
  | imm8 f =>
    match bs, h with
    | n :: bs, h => cases h; exact .imm8 he n rest
  | imm16 f =>
    match bs, h with
    | l :: u :: bs, h =>
      cases h
      simpa only [lo_pair, hi_pair] using Decoded.imm16 he (pair u l) rest
  | cb =>
    match bs, h with
    | [], h => cases h; exact .bare he
    | op2 :: bs, h =>
      obtain ⟨j, hj, -⟩ := prefixedInstr_encode op2
      simp only [hj] at h
      cases h
      exact .prefixed he hj rest

/-! ### Encoding, then decoding -/

/-- For an instruction with a word the decoder puts the two halves together again; any other is read off the maps at its own bytes. -/
theorem decode_encode {i : Instr} (hw : i.wellFormed = true) (rest : List Byte) : decode (encode i ++ rest) = .ok (i, rest) := by
  cases i
  case prefixCb => exact absurd hw (by decide)
  case ldBcNn nn | ldMemNnSp nn | ldDeNn nn | ldHlNn nn | ldSpNn nn | jpNzNn nn | jpNn nn | callNzNn nn | jpZNn nn | callZNn nn |
      callNn nn | jpNcNn nn | callNcNn nn | jpCNn nn | callCNn nn | ldMemNnA nn | ldAMemNn nn =>
    exact (Decoded.imm16 rfl nn rest).decode_eq
  all_goals rfl

/-- Settles O1, by the row of each instruction. -/
theorem encodeThenDecode : Obligations.EncodeThenDecode := by
  unfold Obligations.EncodeThenDecode
  intro i rest hw
  exact decode_encode hw rest

/-! ### Decoding, then encoding -/

/-- STOP's second byte is the only one the encoder cannot give back (45_system.md R382). -/
theorem Decoded.encode_eq {bs rest : List Byte} {i : Instr} (h : Decoded bs i rest) :
    encode i ++ rest = bs ∨ i = .stop ∧ ∃ tail, bs = 0x10 :: tail ∧ rest = tail.drop 1 := by
  cases h with
  | op he => exact .inl (congrArg (· ++ rest) (encode_entryInstr he 0 0))
  | imm8 he n => exact .inl (congrArg (· ++ rest) (encode_entryInstr he n 0))
  | imm16 he w => exact .inl (congrArg (· ++ rest) (encode_entryInstr he 0 w))
  | bare he => exact .inl (encode_entryInstr he 0 0)
  | stop he tail =>
    obtain ⟨rfl, -⟩ := List.cons.inj (encode_entryInstr he 0 0)
    exact .inr ⟨rfl, tail, rfl, rfl⟩
  | prefixed he hj =>
    obtain ⟨rfl, -⟩ := List.cons.inj (encode_entryInstr he 0 0)
    exact .inl (congrArg (· ++ rest) (encode_prefixedInstr hj))

/-- Settles O2, by what the decoder answers and the maps against the encoder; an encoded STOP has the second byte 0x00. -/
theorem decodeThenEncode : Obligations.DecodeThenEncode := by
  unfold Obligations.DecodeThenEncode
  intro bs i rest h
  obtain henc | ⟨rfl, hstop⟩ := (decoded_of_decode h).encode_eq
  · refine ⟨fun _ => henc, ?_⟩
    rintro rfl
    exact ⟨0x00 :: rest, henc.symm, rfl⟩
  · exact ⟨absurd rfl, fun _ => hstop⟩

/-! ### Every opcode, and its length -/

theorem decode_three_bytes (op b1 b2 : Byte) (rest : List Byte) : ∃ i tail, decode (op :: b1 :: b2 :: rest) = .ok (i, tail) := by
  obtain ⟨e, he, -⟩ := primaryEntry_encode op
  cases e with
  | op i => exact ⟨i, _, (Decoded.op he _).decode_eq⟩
  | imm8 f => exact ⟨f b1, _, (Decoded.imm8 he b1 _).decode_eq⟩
  | imm16 f =>
    have hword := (Decoded.imm16 he (pair b2 b1) rest).decode_eq
    rw [lo_pair, hi_pair] at hword
    exact ⟨f (pair b2 b1), rest, hword⟩
  | stop => exact ⟨.stop, _, (Decoded.stop he _).decode_eq⟩
  | cb =>
    obtain ⟨j, hj, -⟩ := prefixedInstr_encode b1
    exact ⟨j, _, (Decoded.prefixed he hj _).decode_eq⟩

/-- The decoder takes as many bytes as are fetched for the opcode (30_encoding.md R171, R184). -/
theorem Decoded.fetchedBytes_add {bs rest : List Byte} {i : Instr} (h : Decoded bs i rest) (hw : i.wellFormed = true) (hstop : i ≠ .stop) :
    ∃ op tail, bs = op :: tail ∧ fetchedBytes op + rest.length = bs.length := by
  cases h with
  | op he | imm8 he | imm16 he | prefixed he =>
    refine ⟨_, _, rfl, ?_⟩
    simp only [fetchedBytes, he, List.length_cons]
    omega
  | stop => exact absurd rfl hstop
  | bare => exact absurd hw (by decide)

/-- Settles O3: both maps have an entry at every byte, and decoding an encoding takes all of its bytes. -/
theorem everyOpcodeDecodes : Obligations.EveryOpcodeDecodes := by
  unfold Obligations.EveryOpcodeDecodes
  refine ⟨decode_three_bytes, fun i hw => ?_⟩
  by_cases hstop : i = .stop
  · subst hstop
    exact ⟨0x10, [0x00], rfl, absurd rfl, fun _ => ⟨rfl, rfl⟩⟩
  · have hall : decode (encode i) = .ok (i, []) := by simpa using decode_encode hw []
    obtain ⟨op, tail, henc, hlen⟩ := (decoded_of_decode hall).fetchedBytes_add hw hstop
    exact ⟨op, tail, henc, fun _ => hlen, fun h => absurd h hstop⟩

/-! ### The byte 0xCB alone -/

/-- A later fetch delivers the router's answer at PC in the next machine cycle (00_scope.md R20). -/
theorem fetchNext_latch (s : State) (h : s.sched.queue = []) : s.fetchNext.latch = s.nextCycle.routerRead s.cpu.pc := by
  rw [fetchNext_eq s h]
  exact afterRead_latch s.cpu.pc s

/-- The byte 0xCB alone is the operation of the second byte's fields, after its fetch (45_system.md R385). -/
theorem exec_prefixCb (s : State) (h : s.sched.queue = []) :
    exec .prefixCb s =
      .next ((s.fetchNext.setRemaining (prefixedCycles (s.nextCycle.routerRead s.cpu.pc) - 2)).prefixedOp
        (s.nextCycle.routerRead s.cpu.pc)) := by
  rw [← fetchNext_latch s h]
  rfl

/-- Settles O38: the row the second byte selects means the operation of that byte's fields, which is what the byte 0xCB runs. -/
theorem prefixRunsSelected : Obligations.PrefixRunsSelected := by
  unfold Obligations.PrefixRunsSelected
  intro s h
  obtain ⟨j, hj, hexec⟩ := prefixedInstr_exec (s.nextCycle.routerRead s.cpu.pc)
  exact ⟨j, _, hj, (exec_prefixCb s h).trans (hexec _).symm, exec_prefixCb s h⟩

/-! ### The step of a run that goes on -/

theorem conclude_live {s : State} (h : s.Live) : conclude s = .next s := by
  obtain ⟨hfatal, hrefused⟩ := h
  unfold conclude
  rw [hfatal, hrefused]

theorem step_live {s : State} (h : s.Live) : step s = finish (runBoundary s.beginCycle) := by
  unfold step
  rw [conclude_live h]

theorem runBoundary_instruction {s t : State} (h : s.boundary = (.instruction, t)) : runBoundary s = runInstruction t := by
  unfold runBoundary
  rw [h]

theorem runInstruction_decoded {s : State} {i : Instr} {rest : List Byte} (h : decode s.fetchInstr.1 = .ok (i, rest)) :
    runInstruction s = exec i s.fetchInstr.2 := by
  unfold runInstruction
  rw [h]

/-- Settles O5, one equation per part of the step. -/
theorem stepRunsDecodedInstruction : Obligations.StepRunsDecodedInstruction := by
  unfold Obligations.StepRunsDecodedInstruction
  intro s t i rest hlive hstart hdec
  rw [step_live hlive, runBoundary_instruction hstart, runInstruction_decoded hdec]

/-! ### Undefined opcodes -/

theorem exec_illegal (u : Undefined) (s : State) : exec (.illegal u) s = .next (s.raiseFrozen (undefinedByte u)) := by
  cases u <;> rfl

theorem encode_illegal (u : Undefined) : encode (.illegal u) = [undefinedByte u] := by
  cases u <;> rfl

theorem illegal_wellFormed (u : Undefined) : (Instr.illegal u).wellFormed = true := by
  cases u <;> rfl

/-- Settles O37: the frozen record is `raiseFrozen`'s (60_exceptions.md R426), and the byte is the instruction's encoding. -/
theorem undefinedOpcodeFreezes : Obligations.UndefinedOpcodeFreezes := by
  unfold Obligations.UndefinedOpcodeFreezes
  intro u s
  have hdec := decode_encode (illegal_wellFormed u) []
  rw [encode_illegal] at hdec
  exact ⟨exec_illegal u s, hdec⟩

end Sys2Proof.Machine

/-! SUPPORT. The statements on the loads (40_loads.md R201 to R222) and on words written out from the encodings: the shape of each family, what
each shape does in a running core with nothing scheduled, and the byte a store leaves in RAM. -/

namespace Sys2Proof.Machine

/-! ### The shapes of the loads -/

theorem shape_ldReg (dst r : Reg8) : shape (.ldReg dst r) = .copyReg dst r := by cases dst <;> cases r <;> rfl

theorem shape_ldImm (dst : Reg8) (n : Byte) : shape (.ldImm dst n) = .setReg dst n := by cases dst <;> rfl

theorem shape_ldPair (q : Pair) (nn : Word) : shape (.ldPair q nn) = .setPair q nn := by cases q <;> rfl

theorem shape_ldRegMem (r : Reg8) : shape (.ldRegMem r) = .loadReg r := by cases r <;> rfl

theorem LoadsAcc.shape_eq {i : Instr} {a : State → Word} (h : LoadsAcc i a) : shape i = .loadAcc a := by cases h <;> rfl

/-- The stores have three shapes (of a register, an immediate, the accumulator), which are one write of the byte at the address. -/
theorem StoresByte.run_eq {i : Instr} {a : State → Word} {v : State → Byte} (h : StoresByte i a v) (s : State) :
    (shape i).run s = s.writeNext (a s) (v s) := by
  cases h
  case reg r => cases r <;> rfl
  all_goals rfl

/-! ### Written words, registers and immediates -/

/-- Settles O4: each word is closed, and the decoder computes its row and its operand. -/
theorem writtenWordsDecode : Obligations.WrittenWordsDecode := by
  unfold Obligations.WrittenWordsDecode
  exact ⟨rfl, rfl, rfl, rfl, rfl, rfl, rfl, rfl, rfl, rfl, rfl⟩

/-- Settles O15: these shapes write the register or the pair and nothing else. -/
theorem registerLoads : Obligations.RegisterLoads := by
  unfold Obligations.RegisterLoads
  intro s
  refine ⟨fun dst r => ?_, fun dst n => ?_, fun q nn => ?_⟩
  · rw [exec_eq_shape, shape_ldReg]; rfl
  · rw [exec_eq_shape, shape_ldImm]; rfl
  · rw [exec_eq_shape, shape_ldPair]; rfl

/-! ### What the shapes do in a running core -/

section Running

variable {s : State} (hs : s.cpu.stopped = false)
include hs

/-- A running core's machine cycle with a write keeps the core. -/
theorem afterWrite_awake (a : Word) (v : Byte) : (s.afterWrite a v).cpu = s.cpu := by
  rw [afterWrite_cpu, nextCycle_awake s hs]

/-- LD SP,HL is one internal cycle and a write of SP (40_loads.md R222). -/
theorem loadSpHl_eq : s.loadSpHl = { s.nextCycle with cpu := { s.cpu with sp := s.hl } } := by
  simp only [State.loadSpHl, State.internal, State.setSp, State.hl, nextCycle_awake s hs]

variable (hq : s.sched.queue = [])
include hq

/-- A read whose byte goes to a register: of the core only that register changes (40_loads.md R203). -/
theorem readNext_setReg (a : Word) (r : Reg8) :
    (s.readNext a).setReg r (s.readNext a).latch = { s.afterRead a with cpu := s.cpu.setReg r (s.nextCycle.routerRead a) } := by
  rw [readNext_eq_afterRead a s hq, afterRead_latch]
  simp only [State.setReg, State.mapCpu, afterRead_cpu, nextCycle_awake s hs]

/-- A load of A at HL, which then moves by d (40_loads.md R216, R217). -/
theorem loadAccHl_eq (d : Word) :
    s.loadAccHl d = { s.afterRead s.hl with cpu := { (s.cpu.setPair .hl (s.hl + d)) with a := s.nextCycle.routerRead s.hl } } := by
  have hload : s.loadAcc s.hl = { s.afterRead s.hl with cpu := s.cpu.setReg .a (s.nextCycle.routerRead s.hl) } :=
    readNext_setReg hs hq s.hl .a
  unfold State.loadAccHl
  rw [hload]
  rfl

/-- A store of A at HL, which then moves by d (40_loads.md R218, R219). -/
theorem storeAccHl_eq (d : Word) :
    s.storeAccHl d = { s.afterWrite s.hl s.cpu.a with cpu := s.cpu.setPair .hl (s.hl + d) } := by
  have hstore : s.storeAcc s.hl = s.afterWrite s.hl s.cpu.a := writeNext_eq s.hl s.cpu.a s hq
  unfold State.storeAccHl
  rw [hstore]
  simp only [State.setPair, State.mapCpu, State.hl, afterWrite_awake hs]

/-- The first write of LD (nn),SP leaves SP, whose high byte the second one stores (40_loads.md R221). -/
theorem storeSp_eq (a : Word) : s.storeSp a = (s.afterWrite a (lo s.cpu.sp)).afterWrite (a + 1) (hi s.cpu.sp) := by
  have hlow : s.writeNext a (lo s.cpu.sp) = s.afterWrite a (lo s.cpu.sp) := writeNext_eq a (lo s.cpu.sp) s hq
  unfold State.storeSp
  rw [hlow]
  dsimp only
  rw [afterWrite_awake hs]
  exact writeNext_eq _ _ _ (by rw [afterWrite_queue, hq])

end Running

/-- In storage that is never blocked the addressed byte becomes the one written, whatever the dots before the write do (20_memory.md R102). -/
theorem afterWrite_ram_addressed (a : Word) (v : Byte) (s : State) (hwf : Memory.wf Config.ramBlank s.mem)
    (ho : owner (fold a.toNat) = .workRam ∨ owner (fold a.toNat) = .hram) :
    (s.afterWrite a v).ram (s.ramKey (fold a.toNat)) = v := by
  have hstores : s.nextCycle.StoresAt a := ho.imp_right .inl
  unfold State.afterWrite
  rw [hstores.routerWrite, nextCycle_ramKey]
  exact Memory.get_set_self _ _ _ (nextCycle_mem_wf s hwf)

/-! ### Loads and stores of memory -/

/-- Settles O17: each load is a read whose byte goes to its register; two of them then move HL. -/
theorem oneByteLoads : Obligations.OneByteLoads := by
  unfold Obligations.OneByteLoads
  intro s hq hs
  refine ⟨fun r => ?_, fun i a hload => ?_, ?_, ?_⟩
  · rw [exec_eq_shape, shape_ldRegMem]
    exact congrArg _ (readNext_setReg hs hq s.hl r)
  · rw [exec_eq_shape, hload.shape_eq]
    exact congrArg _ (readNext_setReg hs hq (a s) .a)
  · rw [exec_eq_shape]
    exact congrArg _ (loadAccHl_eq hs hq 1)
  · rw [exec_eq_shape, sub_eq_add_neg]
    exact congrArg _ (loadAccHl_eq hs hq (-1))

/-- Settles O18: each store is a write in the next machine cycle, which keeps the core and every byte but the addressed one (OAM under a DMA
apart). -/
theorem oneByteStores : Obligations.OneByteStores := by
  unfold Obligations.OneByteStores
  intro s hq hs
  refine ⟨fun i a v hstore => ?_, ?_, ?_, fun hwf a v => ⟨?_, ?_, ?_⟩⟩
  · rw [exec_eq_shape, hstore.run_eq]
    exact congrArg _ (writeNext_eq (a s) (v s) s hq)
  · rw [exec_eq_shape]
    exact congrArg _ (storeAccHl_eq hs hq 1)
  · rw [exec_eq_shape, sub_eq_add_neg]
    exact congrArg _ (storeAccHl_eq hs hq (-1))
  · exact afterWrite_awake hs a v
  · exact afterWrite_ram_other a v s hwf
  · exact afterWrite_ram_addressed a v s hwf

/-- Settles O19: two writes in a row, each of which keeps the core, and one internal cycle. -/
theorem stackPointerLoads : Obligations.StackPointerLoads := by
  unfold Obligations.StackPointerLoads
  intro s hq hs
  refine ⟨fun nn => ⟨?_, ?_⟩, ?_⟩
  · rw [exec_eq_shape]
    exact congrArg _ (storeSp_eq hs hq nn)
  · have hlow := afterWrite_awake hs nn (lo s.cpu.sp)
    rw [afterWrite_awake (by rw [hlow, hs]), hlow]
  · rw [exec_eq_shape]
    exact congrArg _ (loadSpHl_eq hs)

end Sys2Proof.Machine

/-! SUPPORT. The statements on 8-bit arithmetic and logic (41_alu8.md R250 to R283): the result and the flags of each operation on unbounded
integers, the shape of each family, and what the forms on the byte at HL do in a running core with nothing scheduled. -/

namespace Sys2Proof.Machine

/-! ### Flags -/

/-- A packed F holds exactly the flags it was packed from (10_state.md R44, R45). -/
theorem flagsAre_packFlags {z n h c z' n' h' c' : Bool} :
    FlagsAre (packFlags z n h c) z' n' h' c' ↔ z = z' ∧ n = n' ∧ h = h' ∧ c = c' := by
  simp only [FlagsAre, packFlags_z, packFlags_n, packFlags_h, packFlags_c, packFlags_low, and_true]

/-- The Z flag of a result, on unbounded integers. -/
theorem beq_zero_eq (v : Byte) : (v == 0) = decide (v.toNat = 0) := by
  rw [beq_eq_decide, decide_eq_decide]
  exact BitVec.toNat_eq

/-! ### The eight ALU operations -/

theorem addByte_toNat (a v : Byte) (c : Bool) : (addByte a v c).value.toNat = (a.toNat + v.toNat + c.toNat) % 256 :=
  BitVec.toNat_ofNat _ _

theorem addByte_flags (a v : Byte) (c : Bool) :
    FlagsAre (addByte a v c).flags (decide ((a.toNat + v.toNat + c.toNat) % 256 = 0)) false
      (decide (a.toNat % 16 + v.toNat % 16 + c.toNat > 0xF)) (decide (a.toNat + v.toNat + c.toNat > 0xFF)) := by
  have hz := beq_zero_eq (addByte a v c).value
  rw [addByte_toNat] at hz
  exact flagsAre_packFlags.mpr ⟨hz, rfl, rfl, rfl⟩

theorem subByte_toNat (a v : Byte) (c : Bool) : (subByte a v c).value.toNat = (a.toNat + 512 - v.toNat - c.toNat) % 256 := by
  have hc := Bool.toNat_le c
  simp only [subByte, BitVec.toNat_sub, BitVec.toNat_ofNat]
  omega

theorem subByte_flags (a v : Byte) (c : Bool) :
    FlagsAre (subByte a v c).flags (decide ((a.toNat + 512 - v.toNat - c.toNat) % 256 = 0)) true
      (decide (a.toNat % 16 < v.toNat % 16 + c.toNat)) (decide (a.toNat < v.toNat + c.toNat)) := by
  have hz := beq_zero_eq (subByte a v c).value
  rw [subByte_toNat] at hz
  exact flagsAre_packFlags.mpr ⟨hz, rfl, rfl, rfl⟩

/-- With no borrow coming in, Z says that the operands are equal (41_alu8.md R257, R272). -/
theorem subByte_false_flags (a v : Byte) :
    FlagsAre (subByte a v false).flags (decide (a.toNat = v.toNat)) true (decide (a.toNat % 16 < v.toNat % 16))
      (decide (a.toNat < v.toNat)) := by
  have hz : (a.toNat + 512 - v.toNat) % 256 = 0 ↔ a.toNat = v.toNat := by omega
  simpa [hz] using subByte_flags a v false

theorem aluByte_rule (op : AluOp) (a v f : Byte) : AluRule op a v f (aluByte op a v f).value (aluByte op a v f).flags := by
  cases op with
  | add => exact ⟨addByte_toNat a v false, addByte_flags a v false⟩
  | adc => exact ⟨addByte_toNat a v (flagC f), addByte_flags a v (flagC f)⟩
  | sub =>
    have hv : (a.toNat + 512 - v.toNat - false.toNat) % 256 = (a.toNat + 256 - v.toNat) % 256 := by
      rw [Bool.toNat_false]
      omega
    exact ⟨(subByte_toNat a v false).trans hv, subByte_false_flags a v⟩
  | sbc => exact ⟨subByte_toNat a v (flagC f), subByte_flags a v (flagC f)⟩
  | and | xor | or => exact ⟨rfl, flagsAre_packFlags.mpr ⟨rfl, rfl, rfl, rfl⟩⟩
  | cp => exact ⟨rfl, subByte_false_flags a v⟩

theorem shape_aluReg (op : AluOp) (r : Reg8) : shape (.aluReg op r) = .aluReg op r := by cases op <;> cases r <;> rfl

theorem shape_aluImm (op : AluOp) (n : Byte) : shape (.aluImm op n) = .aluImm op n := by cases op <;> rfl

theorem shape_aluMem (op : AluOp) : shape (.aluMem op) = .aluMem op := by cases op <;> rfl

/-! ### The byte at HL in a running core -/

/-- A byte at HL replaced by what g makes of it and of F, with the F that g leaves: a read, then a write in the next machine cycle. The `(HL)`
forms of INC and DEC are this: `incMem_eq_changeMem`, `decMem_eq_changeMem`. -/
def State.changeMem (g : Byte → Byte → ByteResult) (s : State) : State :=
  let s1 := s.readNext s.hl
  let x := g s1.latch s1.cpu.f
  (s1.setFlags x.flags).writeNext s1.hl x.value

theorem incMem_eq_changeMem (s : State) : s.incMem = s.changeMem incByte := rfl

theorem decMem_eq_changeMem (s : State) : s.decMem = s.changeMem decByte := rfl

section Running

variable {s : State} (hs : s.cpu.stopped = false)
include hs

/-- A running core's machine cycle with a read keeps the core. -/
theorem afterRead_awake (a : Word) : (s.afterRead a).cpu = s.cpu := by
  rw [afterRead_cpu, nextCycle_awake s hs]

variable (hq : s.sched.queue = [])
include hq

/-- The read in the next machine cycle, then A and F (41_alu8.md R250). -/
theorem aluMem_eq (op : AluOp) :
    let x := aluByte op s.cpu.a (s.nextCycle.routerRead s.hl) s.cpu.f
    s.aluMem op = { s.afterRead s.hl with cpu := { s.cpu with a := x.value, f := x.flags } } := by
  simp only [State.aluMem, State.setAcc, readNext_eq_afterRead s.hl s hq, afterRead_latch, afterRead_awake hs]

/-- The read in the next machine cycle, then F, then the write in the one after it (41_alu8.md R276, R278). -/
theorem changeMem_eq (g : Byte → Byte → ByteResult) :
    let x := g (s.nextCycle.routerRead s.hl) s.cpu.f
    s.changeMem g = ({ s.afterRead s.hl with cpu := { s.cpu with f := x.flags } } : State).afterWrite s.hl x.value := by
  have hcpu := afterRead_awake hs s.hl
  have hhl : (s.afterRead s.hl).hl = s.hl := congrArg (Cpu.pairReg · .hl) hcpu
  simp only [State.changeMem, readNext_eq_afterRead s.hl s hq, afterRead_latch, hhl, State.setFlags, hcpu]
  exact writeNext_eq _ _ _ ((afterRead_queue s.hl s).trans hq)

end Running

/-- Settles O22, by the shape of each form and the result of `aluByte` on unbounded integers. -/
theorem aluOperations : Obligations.AluOperations := by
  unfold Obligations.AluOperations
  intro op s
  refine ⟨fun r => ⟨_, _, ?_, aluByte_rule op _ _ _⟩, fun n => ⟨_, _, ?_, aluByte_rule op _ _ _⟩,
    fun hq hs => ⟨_, _, ?_, aluByte_rule op _ _ _⟩⟩
  · rw [exec_eq_shape, shape_aluReg]; rfl
  · rw [exec_eq_shape, shape_aluImm]; rfl
  · rw [exec_eq_shape, shape_aluMem]
    exact congrArg _ (aluMem_eq hs hq op)

/-! ### The laws of the ALU family -/

/-- Bit i of `x ^ y ^ (x + y + c)` is the carry into bit i, at every width: the sum's bit is the two operands' bits and that carry. -/
theorem xor_add_getLsbD {w i : Nat} (hi : i < w) (x y : BitVec w) (c : Bool) :
    (x ^^^ y ^^^ (x + y + BitVec.ofNat w c.toNat)).getLsbD i = BitVec.carry i x y c := by
  have hc : BitVec.ofNat w c.toNat = BitVec.setWidth w (BitVec.ofBool c) := BitVec.eq_of_toNat_eq (by simp)
  rw [hc, BitVec.getLsbD_xor, BitVec.getLsbD_xor, BitVec.getLsbD_add_add_bool hi, ← Bool.xor_assoc (x.getLsbD i), ← Bool.xor_assoc,
    Bool.xor_self, Bool.false_xor]

/-- A subtraction with a borrow is the addition of the complement with the complemented carry. -/
theorem sub_sub_eq_add_not {w : Nat} (x y : BitVec w) (c : Bool) :
    x - y - BitVec.ofNat w c.toNat = x + ~~~y + BitVec.ofNat w (!c).toNat := by
  have hnot : ~~~y = -y - 1#w := by rw [BitVec.neg_eq_not_add, BitVec.add_sub_cancel]
  rw [hnot]
  cases c with
  | false =>
    change x - y - 0 = x + (-y - 1) + 1
    ring
  | true =>
    change x - y - 1 = x + (-y - 1) + 0
    ring

/-- Bit i of `x ^ y ^ (x - y - c)` is the borrow from bit i, at every width: no carry into that bit of the addition that the subtraction is. -/
theorem xor_sub_getLsbD {w i : Nat} (hi : i < w) (x y : BitVec w) (c : Bool) :
    (x ^^^ y ^^^ (x - y - BitVec.ofNat w c.toNat)).getLsbD i = !BitVec.carry i x (~~~y) (!c) := by
  rw [sub_sub_eq_add_not, ← xor_add_getLsbD hi]
  simp [hi]

theorem carry_four (a v : Byte) (c : Bool) : BitVec.carry 4 a v c = carry4 a.toNat v.toNat c.toNat := by
  simp only [BitVec.carry, carry4, decide_eq_decide]
  omega

theorem not_carry_four (a v : Byte) (c : Bool) : (!BitVec.carry 4 a (~~~v) (!c)) = borrow4 a.toNat v.toNat c.toNat := by
  have hc := Bool.toNat_le c
  have hnot : (!c).toNat = 1 - c.toNat := by cases c <;> rfl
  simp only [BitVec.carry, borrow4, BitVec.toNat_not, ← decide_not, decide_eq_decide, hnot]
  omega

/-- Settles O23: the two half-carries are carries into bit 4, Z of AND and OR is the rule's, and the other laws are by the definition of
`aluByte`. -/
theorem halfCarryLaws : Obligations.HalfCarryLaws := by
  unfold Obligations.HalfCarryLaws
  intro a v f c
  have hadc (h : f.getLsbD 4 = false) : aluByte .adc a v f = aluByte .add a v f := congrArg (addByte a v) h
  have hxor : aluByte .xor a a f = { value := 0, flags := 0x80 } := by
    rw [aluByte, xorByte, BitVec.xor_self]
    rfl
  obtain ⟨hand, handZ, -⟩ := aluByte_rule .and a a f
  obtain ⟨hor, horZ, -⟩ := aluByte_rule .or a a f
  rw [BitVec.and_self] at hand handZ
  rw [BitVec.or_self] at hor horZ
  rw [xor_add_getLsbD (by decide), carry_four, xor_sub_getLsbD (by decide), not_carry_four, handZ, horZ, decide_eq_true_iff]
  exact ⟨packFlags_h _ _ _ _, packFlags_h _ _ _ _, ⟨rfl, rfl, rfl, rfl⟩, hadc, rfl, rfl, hxor, hand, hor, .rfl, .rfl⟩

/-! ### INC and DEC -/

theorem incByte_rule (v f : Byte) : IncRule v f (incByte v f).value (incByte v f).flags := by
  have hv : (v + 1).toNat = (v.toNat + 1) % 256 := BitVec.toNat_add v 1
  have hz : (v + 1 == 0) = decide (v.toNat = 255) := by
    rw [beq_zero_eq, hv, decide_eq_decide]
    omega
  exact ⟨hv, flagsAre_packFlags.mpr ⟨hz, rfl, rfl, rfl⟩⟩

theorem decByte_rule (v f : Byte) : DecRule v f (decByte v f).value (decByte v f).flags := by
  have hv : (v - 1).toNat = (v.toNat + 255) % 256 := by
    rw [BitVec.toNat_sub, Nat.add_comm]
    rfl
  have hz : (v - 1 == 0) = decide (v.toNat = 1) := by
    rw [beq_zero_eq, hv, decide_eq_decide]
    omega
  exact ⟨hv, flagsAre_packFlags.mpr ⟨hz, rfl, rfl, rfl⟩⟩

theorem shape_incReg (r : Reg8) : shape (.incReg r) = .incReg r := by cases r <;> rfl

theorem shape_decReg (r : Reg8) : shape (.decReg r) = .decReg r := by cases r <;> rfl

/-- Settles O24, by the shape of each form, `changeMem_eq` for the byte at HL, and the results of `incByte` and `decByte`. -/
theorem incDecByte : Obligations.IncDecByte := by
  unfold Obligations.IncDecByte
  intro s
  refine ⟨fun r => ⟨⟨_, _, ?_, incByte_rule _ _⟩, _, _, ?_, decByte_rule _ _⟩,
    fun hq hs => ⟨⟨_, _, ?_, incByte_rule _ _⟩, _, _, ?_, decByte_rule _ _⟩⟩
  · rw [exec_eq_shape, shape_incReg]; rfl
  · rw [exec_eq_shape, shape_decReg]; rfl
  · rw [exec_eq_shape]
    exact congrArg _ ((incMem_eq_changeMem s).trans (changeMem_eq hs hq incByte))
  · rw [exec_eq_shape]
    exact congrArg _ ((decMem_eq_changeMem s).trans (changeMem_eq hs hq decByte))

/-! ### DAA -/

theorem ite_add_toNat (p : Bool) (a k : Byte) :
    (if p then a + k else a).toNat = (a.toNat + if p then k.toNat else 0) % 256 := by
  cases p with
  | false => exact (Nat.mod_eq_of_lt a.isLt).symm
  | true => exact BitVec.toNat_add a k

theorem ite_sub_toNat (p : Bool) (a k : Byte) :
    (if p then a - k else a).toNat = (a.toNat + 256 - if p then k.toNat else 0) % 256 := by
  cases p with
  | false =>
    simp only [Bool.false_eq_true, if_false]
    omega
  | true =>
    simp only [if_true, BitVec.toNat_sub]
    omega

/-- The two adjustments of the addition branch, on unbounded integers: a wrap of the first one leaves the low digit. -/
theorem daaAdd_toNat (a : Byte) (h c : Bool) :
    let x := a.toNat + if c || decide (a.toNat > 0x99) then 0x60 else 0
    (daaAdd a h c).1.toNat = (x + if h || decide (x % 16 > 9) then 0x06 else 0) % 256 := by
  have hlow (n : Nat) : n % 256 % 16 = n % 16 := Nat.mod_mod_of_dvd n (by decide)
  simp only [daaAdd, ite_add_toNat, hlow, Nat.mod_add_mod]
  rfl

/-- The two adjustments of the subtraction branch, on unbounded integers. -/
theorem daaSub_toNat (a : Byte) (h c : Bool) :
    let x := a.toNat + 256 - if c then 0x60 else 0
    (daaSub a h c).1.toNat = (x + 256 - if h then 0x06 else 0) % 256 := by
  simp only [daaSub, ite_sub_toNat, BitVec.reduceToNat]
  split <;> split <;> omega

theorem daaByte_eq_daaAdd {a f : Byte} (hn : flagN f = false) :
    let r := daaAdd a (flagH f) (flagC f)
    daaByte a f = { value := r.1, flags := packFlags (r.1 == 0) false false r.2 } := by
  simp only [daaByte, hn, Bool.false_eq_true, if_false]

theorem daaByte_eq_daaSub {a f : Byte} (hn : flagN f = true) :
    let r := daaSub a (flagH f) (flagC f)
    daaByte a f = { value := r.1, flags := packFlags (r.1 == 0) true false r.2 } := by
  simp only [daaByte, hn, if_true]

theorem daaByte_rule (a f : Byte) : DaaRule a f (daaByte a f).value (daaByte a f).flags := by
  unfold DaaRule
  cases hn : f.getLsbD 6 with
  | false =>
    have hv := daaAdd_toNat a (flagH f) (flagC f)
    rw [daaByte_eq_daaAdd hn]
    exact ⟨hv, flagsAre_packFlags.mpr ⟨(beq_zero_eq _).trans (by rw [hv]; rfl), rfl, rfl, rfl⟩⟩
  | true =>
    have hv := daaSub_toNat a (flagH f) (flagC f)
    rw [daaByte_eq_daaSub hn]
    exact ⟨hv, flagsAre_packFlags.mpr ⟨(beq_zero_eq _).trans (by rw [hv]; rfl), rfl, rfl, rfl⟩⟩

/-- Settles O25: the byte's row, its entry in the cycle table, and the two branches of `daaByte` on unbounded integers. -/
theorem decimalAdjust : Obligations.DecimalAdjust := by
  unfold Obligations.DecimalAdjust
  refine ⟨rfl, rfl, fun s => ⟨_, _, ?_, daaByte_rule _ _⟩⟩
  rw [exec_eq_shape]
  rfl

/-! ### DAA on decimal digits -/

/-- The last two decimal digits of n, one per half of a byte. -/
def bcdByte (n : Nat) : Byte := BitVec.ofNat 8 (16 * (n / 10 % 10) + n % 10)

theorem bcdByte_toNat {p q : Nat} (hp : p < 10) (hq : q < 10) : (bcdByte (10 * p + q)).toNat = 16 * p + q := by
  rw [bcdByte, BitVec.toNat_ofNat]
  omega

theorem exists_digits {n : Nat} (h : n < 100) : ∃ p q, p < 10 ∧ q < 10 ∧ n = 10 * p + q :=
  ⟨n / 10, n % 10, by omega, by omega, by omega⟩

section Digits

variable {p q t u k r j v : Nat} (hp : p < 10) (hq : q < 10) (ht : t < 10) (hu : u < 10) (hr : r < 10) (hv : v < 10)
include hp hq ht hu hr hv

/-- The addition branch on a sum of digits, with k the carry of the units and j that of the tens. -/
theorem daaAdd_digits (hunits : q + u = 10 * k + r) (htens : p + t + k = 10 * j + v) :
    let s := 16 * p + q + (16 * t + u)
    let x := s % 256 + if 255 < s ∨ 153 < s % 256 then 96 else 0
    (x + if 15 < (16 * p + q) % 16 + (16 * t + u) % 16 ∨ 9 < x % 16 then 6 else 0) % 256 = 16 * v + r ∧
      ((255 < s ∨ 153 < s % 256) ↔ j = 1) := by
  dsimp only
  obtain rfl | rfl : k = 0 ∨ k = 1 := by omega
  all_goals
    obtain rfl | rfl : j = 0 ∨ j = 1 := by omega
    all_goals exact ⟨by split <;> split <;> omega, by omega⟩

/-- The subtraction branch on a difference of digits, with k = 0 where the units borrow and j = 0 where the tens do. -/
theorem daaSub_digits (hunits : q + 10 - u = 10 * k + r) (htens : p + 9 + k - t = 10 * j + v) :
    let x := (16 * p + q + 512 - (16 * t + u)) % 256 + 256 - if 16 * p + q < 16 * t + u then 96 else 0
    (x + 256 - if (16 * p + q) % 16 < (16 * t + u) % 16 then 6 else 0) % 256 = 16 * v + r := by
  dsimp only
  obtain rfl | rfl : k = 0 ∨ k = 1 := by omega
  all_goals
    obtain rfl | rfl : j = 0 ∨ j = 1 := by omega
    all_goals split <;> split <;> omega

end Digits

/-- DAA after an ADD of two-digit numbers gives their decimal sum, with C its hundred. -/
theorem daaByte_addByte_bcd {m n : Nat} (hm : m < 100) (hn : n < 100) :
    let sum := addByte (bcdByte m) (bcdByte n) false
    (daaByte sum.value sum.flags).value = bcdByte ((m + n) % 100) ∧
      flagC (daaByte sum.value sum.flags).flags = decide (100 ≤ m + n) := by
  intro sum
  obtain ⟨p, q, hp, hq, rfl⟩ := exists_digits hm
  obtain ⟨t, u, ht, hu, rfl⟩ := exists_digits hn
  obtain ⟨k, r, -, hr, hunits⟩ := exists_digits (n := q + u) (by omega)
  obtain ⟨j, v, -, hv, htens⟩ := exists_digits (n := p + t + k) (by omega)
  have hmod : (10 * p + q + (10 * t + u)) % 100 = 10 * v + r := by omega
  have hhundred : j = 1 ↔ 100 ≤ 10 * p + q + (10 * t + u) := by omega
  obtain ⟨hvalue, hcarry⟩ := daaAdd_digits hp hq ht hu hr hv hunits htens
  have hsum : sum.value.toNat = _ := addByte_toNat (bcdByte (10 * p + q)) (bcdByte (10 * t + u)) false
  obtain ⟨-, hN, hH, hC, -⟩ := addByte_flags (bcdByte (10 * p + q)) (bcdByte (10 * t + u)) false
  obtain ⟨hdaa, -, -, -, hdaaC, -⟩ := daaByte_rule sum.value sum.flags
  simp only [sum, hN, hH, hC, hsum, bcdByte_toNat hp hq, bcdByte_toNat ht hu, Bool.toNat_false, Nat.add_zero, Bool.false_eq_true, if_false,
    ← Bool.decide_or, decide_eq_true_eq, gt_iff_lt] at hdaa hdaaC
  rw [hmod]
  exact ⟨BitVec.eq_of_toNat_eq ((hdaa.trans hvalue).trans (bcdByte_toNat hv hr).symm),
    hdaaC.trans (decide_eq_decide.mpr (hcarry.trans hhundred))⟩

/-- DAA after a SUB of two-digit numbers gives their decimal difference. -/
theorem daaByte_subByte_bcd {m n : Nat} (hm : m < 100) (hn : n < 100) :
    let diff := subByte (bcdByte m) (bcdByte n) false
    (daaByte diff.value diff.flags).value = bcdByte ((m + 100 - n) % 100) := by
  intro diff
  obtain ⟨p, q, hp, hq, rfl⟩ := exists_digits hm
  obtain ⟨t, u, ht, hu, rfl⟩ := exists_digits hn
  obtain ⟨k, r, -, hr, hunits⟩ := exists_digits (n := q + 10 - u) (by omega)
  obtain ⟨j, v, -, hv, htens⟩ := exists_digits (n := p + 9 + k - t) (by omega)
  have hmod : (10 * p + q + 100 - (10 * t + u)) % 100 = 10 * v + r := by omega
  have hdiff : diff.value.toNat = _ := subByte_toNat (bcdByte (10 * p + q)) (bcdByte (10 * t + u)) false
  obtain ⟨-, hN, hH, hC, -⟩ := subByte_flags (bcdByte (10 * p + q)) (bcdByte (10 * t + u)) false
  obtain ⟨hdaa, -⟩ := daaByte_rule diff.value diff.flags
  simp only [diff, hN, hH, hC, hdiff, bcdByte_toNat hp hq, bcdByte_toNat ht hu, Bool.toNat_false, Nat.add_zero, Nat.sub_zero, if_true,
    decide_eq_true_eq] at hdaa
  rw [hmod]
  exact BitVec.eq_of_toNat_eq ((hdaa.trans (daaSub_digits hp hq ht hu hr hv hunits htens)).trans (bcdByte_toNat hv hr).symm)

/-- Settles O26, by the two lemmas on decimal digits. -/
theorem decimalAdjustIsDecimal : Obligations.DecimalAdjustIsDecimal := by
  unfold Obligations.DecimalAdjustIsDecimal
  intro x y
  obtain ⟨hsum, hcarry⟩ := daaByte_addByte_bcd x.isLt y.isLt
  exact ⟨hsum, hcarry, daaByte_subByte_bcd x.isLt y.isLt⟩

/-! ### CPL, SCF, CCF -/

theorem cplByte_value (a f : Byte) : (cplByte a f).value = ~~~a := BitVec.xor_allOnes

/-- Settles O27: the flags are packed from those that stay and those that are written, and `A ^ 0xFF` is the complement. -/
theorem complementAndCarry : Obligations.ComplementAndCarry := by
  unfold Obligations.ComplementAndCarry
  intro s
  refine ⟨⟨(cplByte s.cpu.a s.cpu.f).flags, ?_, flagsAre_packFlags.mpr ⟨rfl, rfl, rfl, rfl⟩⟩,
    ⟨scfFlags s.cpu.f, rfl, flagsAre_packFlags.mpr ⟨rfl, rfl, rfl, rfl⟩⟩,
    ⟨ccfFlags s.cpu.f, rfl, flagsAre_packFlags.mpr ⟨rfl, rfl, rfl, rfl⟩⟩⟩
  rw [exec_eq_shape, ← cplByte_value s.cpu.a s.cpu.f]
  rfl

end Sys2Proof.Machine

/-! SUPPORT. The statements on 16-bit arithmetic (42_alu16.md R290 to R296): the result and the flags of each operation on unbounded integers, the
shape of each family, and what each shape does in a running core. -/

namespace Sys2Proof.Machine

/-! ### Results and flags -/

theorem addWord_toNat (a b : Word) (f : Byte) : (addWord a b f).value.toNat = (a.toNat + b.toNat) % 65536 :=
  BitVec.toNat_add a b

theorem addWord_flags (a b : Word) (f : Byte) :
    FlagsAre (addWord a b f).flags (f.getLsbD 7) false (decide (a.toNat % 4096 + b.toNat % 4096 > 0xFFF))
      (decide (a.toNat + b.toNat > 0xFFFF)) :=
  flagsAre_packFlags.mpr ⟨rfl, rfl, rfl, rfl⟩

/-- A word moved by a signed displacement, modulo 0x10000 (00_scope.md R18). -/
theorem add_sext_toNat (a : Word) (e : Byte) : ((a + sext e).toNat : Int) = ((a.toNat : Int) + signedByte e) % 65536 := by
  rw [BitVec.toNat_add, sext_toNat, signedByte]
  split <;> omega

theorem addSigned_flags (sp : Word) (e : Byte) :
    FlagsAre (addSigned sp e).flags false false (decide (sp.toNat % 16 + e.toNat % 16 > 0xF))
      (decide (sp.toNat % 256 + e.toNat > 0xFF)) :=
  flagsAre_packFlags.mpr ⟨rfl, rfl, rfl, rfl⟩

/-! ### The two carry methods -/

theorem carry_twelve (a b : Word) : BitVec.carry 12 a b false = carry12 a.toNat b.toNat := by
  simp only [BitVec.carry, carry12, decide_eq_decide, Bool.toNat_false]
  omega

/-- The threshold on the low twelve bits is the carry into bit 12 (42_alu16.md R296). -/
theorem carry12_eq_getLsbD (a b : Word) : carry12 a.toNat b.toNat = (a ^^^ b ^^^ (a + b)).getLsbD 12 := by
  have h := xor_add_getLsbD (i := 12) (by decide) a b false
  rw [carry_twelve, Bool.toNat_false, BitVec.add_zero] at h
  exact h.symm

/-- A sum of two words is below 2 ^ 17, so its bit 16 says that it passes 0xFFFF (42_alu16.md R296). -/
theorem carry16_eq_testBit (a b : Word) : carry16 a.toNat b.toNat = (a.toNat + b.toNat).testBit 16 := by
  rw [carry16, Nat.testBit_eq_decide_div_mod_eq, decide_eq_decide]
  omega

/-! ### The shapes -/

theorem shape_addHlPair (q : Pair) : shape (.addHlPair q) = .addHl q := by cases q <;> rfl

theorem shape_incPair (q : Pair) : shape (.incPair q) = .incPair q := by cases q <;> rfl

theorem shape_decPair (q : Pair) : shape (.decPair q) = .decPair q := by cases q <;> rfl

section Running

variable {s : State} (hs : s.cpu.stopped = false)
include hs

theorem addHl_eq (q : Pair) :
    let x := addWord s.hl (s.cpu.pairReg q) s.cpu.f
    s.addHl q = { s.nextCycle with cpu := { s.cpu.setPair .hl x.value with f := x.flags } } := by
  simp only [State.addHl, State.internal, State.setFlags, State.setPair, State.mapCpu, State.hl, nextCycle_awake s hs]

theorem incPair_eq (q : Pair) : s.incPair q = { s.nextCycle with cpu := s.cpu.setPair q (s.cpu.pairReg q + 1) } := by
  simp only [State.incPair, State.internal, State.setPair, State.mapCpu, nextCycle_awake s hs]

theorem decPair_eq (q : Pair) : s.decPair q = { s.nextCycle with cpu := s.cpu.setPair q (s.cpu.pairReg q - 1) } := by
  simp only [State.decPair, State.internal, State.setPair, State.mapCpu, nextCycle_awake s hs]

theorem addSp_eq (e : Byte) :
    let x := addSigned s.cpu.sp e
    s.addSp e = { s.nextCycle.nextCycle with cpu := { s.cpu with sp := x.value, f := x.flags } } := by
  have hcpu := nextCycle_awake s hs
  have hcpu2 : s.nextCycle.nextCycle.cpu = s.cpu := (nextCycle_awake _ (by rw [hcpu, hs])).trans hcpu
  simp only [State.addSp, State.internal, State.setFlags, State.setSp, hcpu2]

theorem loadHlSp_eq (e : Byte) :
    let x := addSigned s.cpu.sp e
    s.loadHlSp e = { s.nextCycle with cpu := { s.cpu.setPair .hl x.value with f := x.flags } } := by
  simp only [State.loadHlSp, State.internal, State.setFlags, State.setPair, State.mapCpu, nextCycle_awake s hs]

end Running

/-! ### The statements -/

/-- Settles O28: each form is one internal cycle and `addWord`, or one internal cycle and the pair moved by one; the two carry methods agree by
the carry into bit 12 and the bound on the sum. -/
theorem pairArithmetic : Obligations.PairArithmetic := by
  unfold Obligations.PairArithmetic
  refine ⟨fun q s hs => ⟨⟨_, _, ?_, addWord_toNat _ _ s.cpu.f, addWord_flags _ _ _⟩, ?_, ?_⟩,
    fun a b => ⟨carry12_eq_getLsbD a b, carry16_eq_testBit a b⟩⟩
  · rw [exec_eq_shape, shape_addHlPair]
    exact congrArg _ (addHl_eq hs q)
  · rw [exec_eq_shape, shape_incPair]
    exact congrArg _ (incPair_eq hs q)
  · rw [exec_eq_shape, shape_decPair]
    exact congrArg _ (decPair_eq hs q)

/-- Settles O29: both forms are `addSigned` of the SP before the instruction, after two internal cycles and after one. -/
theorem stackPointerPlusDisplacement : Obligations.StackPointerPlusDisplacement := by
  unfold Obligations.StackPointerPlusDisplacement
  intro e s hs
  refine ⟨_, _, ?_, ?_, add_sext_toNat s.cpu.sp e, addSigned_flags s.cpu.sp e⟩
  · rw [exec_eq_shape]
    exact congrArg _ (addSp_eq hs e)
  · rw [exec_eq_shape]
    exact congrArg _ (loadHlSp_eq hs e)

end Sys2Proof.Machine

/-! SUPPORT. The statements on rotates, shifts and bits (43_rotate_shift_bit.md R310 to R336): the bits of each operation's result, the shape of
each family, and what the forms on the byte at HL do in a running core with nothing scheduled. -/

namespace Sys2Proof.Machine

/-! ### Single bits -/

theorem bitAt_true (k : Nat) : bitAt k true = BitVec.twoPow 8 k := by
  apply BitVec.eq_of_toNat_eq
  rw [BitVec.toNat_twoPow]
  exact BitVec.toNat_ofNat (2 ^ k) 8

theorem bitAt_getLsbD {k i : Nat} (x : Bool) (hi : i < 8) : (bitAt k x).getLsbD i = (x && decide (k = i)) := by
  cases x with
  | false => exact BitVec.getLsbD_zero
  | true =>
    have hk : k = i → k < 8 := fun h => h ▸ hi
    rw [bitAt_true, BitVec.getLsbD_twoPow, Bool.true_and, ← Bool.decide_and, decide_eq_decide]
    exact and_iff_right_of_imp hk

theorem or_bitAt_false (v : Byte) (k : Nat) : v ||| bitAt k false = v := BitVec.or_zero

theorem resByte_getLsbD {i : Nat} (b : Oct) (v : Byte) (hi : i < 8) :
    (resByte b v).getLsbD i = if i = b.toNat then false else v.getLsbD i := by
  rw [resByte, BitVec.getLsbD_and, BitVec.getLsbD_not, bitAt_getLsbD true hi]
  by_cases h : b.toNat = i
  · simp [h]
  · simp [h, hi, Ne.symm h]

theorem setByte_getLsbD {i : Nat} (b : Oct) (v : Byte) (hi : i < 8) :
    (setByte b v).getLsbD i = if i = b.toNat then true else v.getLsbD i := by
  rw [setByte, BitVec.getLsbD_or, bitAt_getLsbD true hi]
  by_cases h : b.toNat = i
  · simp [h]
  · simp [h, Ne.symm h]

/-! ### The bits of a rotate or shift -/

/-- A byte moved one place to the left, with bit 0 moved in. -/
theorem shiftLeft_or_bitAt_getLsbD (v : Byte) (x : Bool) {i : Nat} (hi : i < 8) :
    (v <<< 1 ||| bitAt 0 x).getLsbD i = if i = 0 then x else v.getLsbD (i - 1) := by
  rw [BitVec.getLsbD_or, BitVec.getLsbD_shiftLeft, bitAt_getLsbD x hi]
  cases i with
  | zero => simp
  | succ i => simp [hi]

/-- A byte moved one place to the right, with bit 7 moved in. -/
theorem ushiftRight_or_bitAt_getLsbD (v : Byte) (x : Bool) {i : Nat} (hi : i < 8) :
    (v >>> 1 ||| bitAt 7 x).getLsbD i = if i = 7 then x else v.getLsbD (i + 1) := by
  rw [BitVec.getLsbD_or, BitVec.getLsbD_ushiftRight, bitAt_getLsbD x hi, Nat.add_comm 1 i]
  by_cases h : 7 = i
  · simp [← h]
  · simp [h, Ne.symm h]

/-- SRA keeps bit 7 (43_rotate_shift_bit.md R325). -/
theorem and_bit7_eq_bitAt (v : Byte) : v &&& 0x80 = bitAt 7 (bitOf v 7) := BitVec.and_twoPow v 7

/-- The nibbles change places (43_rotate_shift_bit.md R327). -/
theorem swapNibbles_getLsbD (v : Byte) {i : Nat} (hi : i < 8) :
    (v <<< 4 ||| v >>> 4).getLsbD i = v.getLsbD ((i + 4) % 8) := by
  rw [BitVec.getLsbD_or, BitVec.getLsbD_shiftLeft, BitVec.getLsbD_ushiftRight]
  by_cases h : i < 4
  · have hmod : (i + 4) % 8 = 4 + i := by omega
    simp [h, hmod]
  · have hmod : (i + 4) % 8 = i - 4 := by omega
    have hhigh : v.getLsbD (4 + i) = false := BitVec.getLsbD_of_ge v (4 + i) (by omega)
    simp [h, hi, hmod, hhigh]

/-- Each operation moves the byte by one place, with some bit moved in at the free end; SWAP is the exception. -/
theorem rotByte_rule (op : RotOp) (v : Byte) (c : Bool) : RotRule op v c (rotByte op v c).1 (rotByte op v c).2 := by
  cases op with
  | rlc => exact ⟨rfl, fun _ hi => shiftLeft_or_bitAt_getLsbD v _ hi⟩
  | rl => exact ⟨rfl, fun _ hi => shiftLeft_or_bitAt_getLsbD v c hi⟩
  | sla =>
    refine ⟨rfl, fun _ hi => ?_⟩
    rw [rotByte, ← or_bitAt_false (v <<< 1) 0]
    exact shiftLeft_or_bitAt_getLsbD v false hi
  | rrc => exact ⟨rfl, fun _ hi => ushiftRight_or_bitAt_getLsbD v _ hi⟩
  | rr => exact ⟨rfl, fun _ hi => ushiftRight_or_bitAt_getLsbD v c hi⟩
  | sra =>
    refine ⟨rfl, fun _ hi => ?_⟩
    rw [rotByte, and_bit7_eq_bitAt]
    exact ushiftRight_or_bitAt_getLsbD v _ hi
  | srl =>
    refine ⟨rfl, fun _ hi => ?_⟩
    rw [rotByte, ← or_bitAt_false (v >>> 1) 7]
    exact ushiftRight_or_bitAt_getLsbD v false hi
  | swap => exact ⟨rfl, fun _ hi => swapNibbles_getLsbD v hi⟩

theorem rotResult_rule (op : RotOp) (v f : Byte) : RotFlagRule op v f (rotResult op v f).value (rotResult op v f).flags :=
  ⟨_, rotByte_rule op v (flagC f), flagsAre_packFlags.mpr ⟨beq_eq_decide _ _, rfl, rfl, rfl⟩⟩

/-! ### The shapes -/

theorem shape_rotReg (op : RotOp) (r : Reg8) : shape (.rotReg op r) = .rotReg op r := by cases op <;> cases r <;> rfl

theorem shape_rotMem (op : RotOp) : shape (.rotMem op) = .rotMem op := by cases op <;> rfl

theorem shape_bitReg (b : Oct) (r : Reg8) : shape (.bitReg b r) = .testBitReg b r := by cases b <;> cases r <;> rfl

theorem shape_resReg (b : Oct) (r : Reg8) : shape (.resReg b r) = .resBitReg b r := by cases b <;> cases r <;> rfl

theorem shape_setReg (b : Oct) (r : Reg8) : shape (.setReg b r) = .setBitReg b r := by cases b <;> cases r <;> rfl

theorem shape_bitMem (b : Oct) : shape (.bitMem b) = .testBitMem b := by cases b <;> rfl

theorem shape_resMem (b : Oct) : shape (.resMem b) = .resBitMem b := by cases b <;> rfl

theorem shape_setMem (b : Oct) : shape (.setMem b) = .setBitMem b := by cases b <;> rfl

/-- The unprefixed rotates are the accumulator forms of the four operations that rotate (43_rotate_shift_bit.md R311 to R314). -/
theorem shape_rotAcc {op : RotOp} {i : Instr}
    (h : (op, i) ∈ [(RotOp.rlc, Instr.rlca), (.rrc, .rrca), (.rl, .rla), (.rr, .rra)]) : shape i = .rotAcc op := by
  simp only [List.mem_cons, List.not_mem_nil, or_false, Prod.mk.injEq] at h
  obtain ⟨rfl, rfl⟩ | ⟨rfl, rfl⟩ | ⟨rfl, rfl⟩ | ⟨rfl, rfl⟩ := h <;> rfl

theorem rotMem_eq_changeMem (op : RotOp) (s : State) : s.rotMem op = s.changeMem (rotResult op) := rfl

section Running

variable {s : State} (hs : s.cpu.stopped = false) (hq : s.sched.queue = [])
include hs hq

/-- BIT of the byte at HL reads it, and of the core only F changes (43_rotate_shift_bit.md R332). -/
theorem testBitMem_eq (b : Oct) :
    s.testBitMem b =
      { s.afterRead s.hl with cpu := { s.cpu with f := bitFlags b (s.nextCycle.routerRead s.hl) s.cpu.f } } := by
  simp only [State.testBitMem, State.setFlags, readNext_eq_afterRead s.hl s hq, afterRead_latch, afterRead_awake hs]

/-- The byte at HL is read, and what g makes of it is written in the machine cycle after (43_rotate_shift_bit.md R334, R336). -/
theorem readNext_writeNext_hl (g : Byte → Byte) :
    (s.readNext s.hl).writeNext (s.readNext s.hl).hl (g (s.readNext s.hl).latch) =
      (s.afterRead s.hl).afterWrite s.hl (g (s.nextCycle.routerRead s.hl)) := by
  have hhl : (s.afterRead s.hl).hl = s.hl := congrArg (Cpu.pairReg · .hl) (afterRead_awake hs s.hl)
  rw [readNext_eq_afterRead s.hl s hq, afterRead_latch, hhl]
  exact writeNext_eq _ _ _ ((afterRead_queue s.hl s).trans hq)

end Running

/-! ### The statements -/

/-- Settles O30, by the shape of each form, `changeMem_eq` for the byte at HL, and the bits of `rotByte`'s result. -/
theorem rotates : Obligations.Rotates := by
  unfold Obligations.Rotates
  intro op s
  refine ⟨fun r => ⟨_, _, ?_, rotResult_rule op _ _⟩,
    fun i hi => ⟨_, _, _, ?_, rotByte_rule op _ _, flagsAre_packFlags.mpr ⟨rfl, rfl, rfl, rfl⟩⟩,
    fun hq hs => ⟨_, _, ?_, rotResult_rule op _ _⟩⟩
  · rw [exec_eq_shape, shape_rotReg]; rfl
  · rw [exec_eq_shape, shape_rotAcc hi]; rfl
  · rw [exec_eq_shape, shape_rotMem]
    exact congrArg _ ((rotMem_eq_changeMem op s).trans (changeMem_eq hs hq (rotResult op)))

/-- Settles O31, by the shape of each form, the accesses at HL, and the bits of `resByte` and `setByte`. -/
theorem bits : Obligations.Bits := by
  unfold Obligations.Bits
  intro b s
  have hflags (v : Byte) : FlagsAre (bitFlags b v s.cpu.f) (!v.getLsbD b.toNat) false true (s.cpu.f.getLsbD 4) :=
    flagsAre_packFlags.mpr ⟨rfl, rfl, rfl, rfl⟩
  refine ⟨fun r => ⟨⟨_, ?_, hflags _⟩, ⟨_, ?_, fun _ hi => resByte_getLsbD b _ hi⟩, _, ?_, fun _ hi => setByte_getLsbD b _ hi⟩,
    fun hq hs => ⟨⟨_, ?_, hflags _⟩, ⟨_, ?_, fun _ hi => resByte_getLsbD b _ hi⟩, _, ?_, fun _ hi => setByte_getLsbD b _ hi⟩⟩
  · rw [exec_eq_shape, shape_bitReg]; rfl
  · rw [exec_eq_shape, shape_resReg]; rfl
  · rw [exec_eq_shape, shape_setReg]; rfl
  · rw [exec_eq_shape, shape_bitMem]
    exact congrArg _ (testBitMem_eq hs hq b)
  · rw [exec_eq_shape, shape_resMem]
    exact congrArg _ (readNext_writeNext_hl hs hq (resByte b))
  · rw [exec_eq_shape, shape_setMem]
    exact congrArg _ (readNext_writeNext_hl hs hq (setByte b))

end Sys2Proof.Machine

/-! SUPPORT. The statements on control transfers (44_control.md R350 to R362): when a condition holds, the shape of each conditional family, and
what each transfer does in a running core with nothing scheduled. -/

namespace Sys2Proof.Machine

/-! ### Conditions -/

/-- The model's condition on F is the rule's (44_control.md R350). -/
theorem condHolds_iff {k : Cond} {f : Byte} : condHolds k f = true ↔ CondRule k f := by
  cases k with
  | nz | nc => exact iff_of_eq (Bool.not_eq_true' _)
  | z | c => exact Iff.rfl

/-- An instruction whose shape decides by a condition does the one thing where the condition holds, and else the other. -/
theorem exec_of_run_ite {i : Instr} {k : Cond} {s taken untaken : State}
    (h : (shape i).run s = if condHolds k s.cpu.f then taken else untaken) :
    (CondRule k s.cpu.f → exec i s = .next taken) ∧ (¬ CondRule k s.cpu.f → exec i s = .next untaken) := by
  rw [exec_eq_shape, h]
  exact ⟨fun hk => by rw [if_pos (condHolds_iff.2 hk)], fun hk => by rw [if_neg (mt condHolds_iff.1 hk)]⟩

/-! ### The shapes -/

theorem shape_jpIf (k : Cond) (nn : Word) : shape (.jpIf k nn) = .jumpIf k nn := by cases k <;> rfl

theorem shape_jrIf (k : Cond) (e : Byte) : shape (.jrIf k e) = .jumpRelativeIf k e := by cases k <;> rfl

theorem shape_callIf (k : Cond) (nn : Word) : shape (.callIf k nn) = .callIf k nn := by cases k <;> rfl

theorem shape_retIf (k : Cond) : shape (.retIf k) = .returnIf k := by cases k <;> rfl

theorem shape_rst (y : Oct) : shape (.rst y) = .restart y := by cases y <;> rfl

/-! ### What the shapes do in a running core -/

section Running

variable {s : State} (hs : s.cpu.stopped = false)
include hs

theorem jump_eq (nn : Word) : s.jump nn = { s.nextCycle with cpu := { s.cpu with pc := nn } } := by
  simp only [State.jump, State.internal, State.setPc, nextCycle_awake s hs]

theorem jumpRelative_eq (e : Byte) : s.jumpRelative e = { s.nextCycle with cpu := { s.cpu with pc := s.cpu.pc + sext e } } := by
  simp only [State.jumpRelative, State.internal, State.setPc, nextCycle_awake s hs]

variable (hq : s.sched.queue = [])
include hq

/-- The internal cycle keeps PC, the push moves SP alone, and PC takes the target (44_control.md R356, R361). -/
theorem call_eq (nn : Word) :
    s.call nn = { s.nextCycle.afterPush s.cpu.pc with cpu := { s.cpu with sp := s.cpu.sp - 2, pc := nn } } := by
  have hcpu := nextCycle_awake s hs
  have hs1 : s.nextCycle.cpu.stopped = false := by rw [hcpu, hs]
  simp only [State.call, State.internal, State.setPc, pushWord_eq _ s.nextCycle ((nextCycle_queue s).trans hq) hs1,
    afterPush_cpu _ s.nextCycle hs1, hcpu]

/-- The pop moves SP alone, the internal cycle keeps the core, and PC takes the word read (44_control.md R358, R361). -/
theorem returnNow_eq :
    s.returnNow = { s.afterPop.nextCycle with cpu := { s.cpu with sp := s.cpu.sp + 2, pc := s.popped } } := by
  have hpop := afterPop_cpu s hs
  have hcpu : s.afterPop.nextCycle.cpu = { s.cpu with sp := s.cpu.sp + 2 } :=
    (nextCycle_awake _ (by rw [hpop]; exact hs)).trans hpop
  simp only [State.returnNow, State.internal, State.setPc, popWord_eq s hq hs, hcpu]

/-- The condition is decided after an internal cycle, which keeps F (44_control.md R359). -/
theorem returnIf_eq (k : Cond) :
    s.returnIf k =
      if condHolds k s.cpu.f then
        { s.nextCycle.afterPop.nextCycle with cpu := { s.cpu with sp := s.cpu.sp + 2, pc := s.nextCycle.popped } }
      else s.nextCycle := by
  have hcpu := nextCycle_awake s hs
  have hs1 : s.nextCycle.cpu.stopped = false := by rw [hcpu, hs]
  simp only [State.returnIf, State.internal, returnNow_eq hs1 ((nextCycle_queue s).trans hq), hcpu]

theorem returnFromInterrupt_eq :
    s.returnFromInterrupt =
      { s.afterPop.nextCycle with cpu := { s.cpu with sp := s.cpu.sp + 2, pc := s.popped, ime := true, eiDelay := 0 } } := by
  simp only [State.returnFromInterrupt, State.mapCpu, returnNow_eq hs hq]

end Running

/-! ### The statements -/

/-- Settles O32: a jump is one internal cycle, which keeps the core, and a write of PC; the condition is decided before both. -/
theorem jumps : Obligations.Jumps := by
  unfold Obligations.Jumps
  intro s hs
  refine ⟨fun nn => ?_, rfl, fun e => ?_, fun k nn => exec_of_run_ite ?_, fun k e => exec_of_run_ite ?_, add_sext_toNat s.cpu.pc⟩
  · rw [exec_eq_shape]
    exact congrArg _ (jump_eq hs nn)
  · rw [exec_eq_shape]
    exact congrArg _ (jumpRelative_eq hs e)
  · rw [shape_jpIf, ← jump_eq hs nn]
    rfl
  · rw [shape_jrIf, ← jumpRelative_eq hs e]
    rfl

/-- Settles O33: every form taken is `call`, which pushes the PC of before after one internal cycle. -/
theorem calls : Obligations.Calls := by
  unfold Obligations.Calls
  intro s hq hs called
  have hcall (nn : Word) : s.call nn = called nn := call_eq hs hq nn
  refine ⟨fun nn => ?_, fun k nn => exec_of_run_ite ?_, fun y => ?_⟩
  · rw [exec_eq_shape, ← hcall]
    rfl
  · rw [shape_callIf, ← hcall]
    rfl
  · rw [exec_eq_shape, shape_rst, ← hcall]
    rfl

/-- Settles O34: every form taken is `returnNow`; RET cc runs it after the internal cycle of its condition, RETI writes the control bits after it. -/
theorem returns : Obligations.Returns := by
  unfold Obligations.Returns
  intro s hq hs
  refine ⟨?_, fun k => exec_of_run_ite ?_, ?_⟩
  · rw [exec_eq_shape]
    exact congrArg _ (returnNow_eq hs hq)
  · rw [shape_retIf]
    exact returnIf_eq hs hq k
  · rw [exec_eq_shape]
    exact congrArg _ (returnFromInterrupt_eq hs hq)

end Sys2Proof.Machine

/-! SUPPORT. The statements on NOP, DI, EI, HALT and STOP (45_system.md R380 to R384) and on the uses of unimplemented features (60_exceptions.md
R468): the branches of HALT, EI and STOP, what a mark makes of the end of a step, and the two dots of a visible line that can mark one. -/

namespace Sys2Proof.Machine

/-! ### NOP, DI, EI and HALT -/

/-- HALT waits, where interrupts are enabled or none is pending (45_system.md R381). -/
theorem enterHalt_waits {s : State} (h : s.cpu.ime = true ∨ s.pending = 0) :
    s.enterHalt = { s with cpu := { s.cpu with halted := true } } :=
  if_pos h

/-- HALT with a pending line that IME does not let through is the halt bug (45_system.md R381). -/
theorem enterHalt_haltBug {s : State} (hime : s.cpu.ime = false) (hpending : s.pending ≠ 0) :
    s.enterHalt = { s with cpu := { s.cpu with haltBug := true } } :=
  if_neg (not_or.2 ⟨Bool.eq_false_iff.1 hime, hpending⟩)

/-- EI starts the delay where neither IME nor a delay stands (45_system.md R384). -/
theorem enableInterrupts_arms {s : State} (hime : s.cpu.ime = false) (hdelay : s.cpu.eiDelay = 0) :
    s.enableInterrupts = { s with cpu := { s.cpu with eiDelay := 2 } } :=
  if_pos ⟨hime, hdelay⟩

/-- EI changes nothing where IME or a delay stands (45_system.md R384). -/
theorem enableInterrupts_again {s : State} (h : s.cpu.ime = true ∨ s.cpu.eiDelay ≠ 0) : s.enableInterrupts = s := by
  have hnot : ¬ (s.cpu.ime = false ∧ s.cpu.eiDelay = 0) := fun ⟨hime, hdelay⟩ =>
    h.elim (Bool.eq_false_iff.1 hime) (absurd hdelay)
  exact if_neg hnot

/-- Settles O35, one branch of each instruction per clause. -/
theorem nopDiEiHalt : Obligations.NopDiEiHalt := by
  unfold Obligations.NopDiEiHalt
  intro s
  simp only [exec_eq_shape]
  exact ⟨rfl, rfl, fun hime hdelay => congrArg _ (enableInterrupts_arms hime hdelay), fun h => congrArg _ (enableInterrupts_again h),
    fun h => congrArg _ (enterHalt_waits h), fun hime hpending => congrArg _ (enterHalt_haltBug hime hpending)⟩

/-! ### The end of a run -/

theorem conclude_fatal {s : State} {m : String} (h : s.fatal = some m) : conclude s = .fault (.fatal m) := by
  unfold conclude
  rw [h]

theorem conclude_refused {s : State} {f : Feature} (hfatal : s.fatal = none) (h : s.refused = some f) :
    conclude s = .refused (.unmodelled f) := by
  unfold conclude
  rw [hfatal, h]

/-- The first refusal of a run stands as its mark (60_exceptions.md R468). -/
theorem markRefused_live {s : State} (h : s.Live) (f : Feature) : s.markRefused f = { s with refused := some f } := by
  obtain ⟨hfatal, hrefused⟩ := h
  exact if_pos ⟨hrefused, hfatal⟩

/-- A run that goes on ends with the refusal that is marked in it. -/
theorem conclude_markRefused {s : State} (h : s.Live) (f : Feature) : conclude (s.markRefused f) = .refused (.unmodelled f) := by
  rw [markRefused_live h]
  exact conclude_refused h.1 rfl

theorem step_fatal {s : State} {m : String} (h : s.fatal = some m) : step s = .fault (.fatal m) := by
  unfold step
  rw [conclude_fatal h]

theorem step_refused {s : State} {f : Feature} (hfatal : s.fatal = none) (h : s.refused = some f) :
    step s = .refused (.unmodelled f) := by
  unfold step
  rw [conclude_refused hfatal h]

/-! ### STOP -/

/-- STOP with the speed switch not armed skips a byte, stops the core and writes DIV (45_system.md R382). -/
theorem enterStop_stops {s : State} (hkey : s.key1 = false) :
    s.enterStop = ({ s with cpu := { s.cpu with pc := s.cpu.pc + 1, stopped := true } } : State).routerWrite 0xFF04 0 := by
  rw [routerWrite_io _ _ (by decide) (by decide)]
  exact if_neg (Bool.eq_false_iff.1 hkey)

/-- STOP with the speed switch armed skips a byte and marks the refusal (45_system.md R382; 60_exceptions.md R468). -/
theorem enterStop_marks {s : State} (hkey : s.key1 = true) : s.enterStop = (s.setPc (s.cpu.pc + 1)).markRefused .doubleSpeed :=
  if_pos hkey

/-- The end of the machine cycle leaves the marks alone, so a run that goes on ends there (60_exceptions.md R468). -/
theorem finish_stop_doubleSpeed {s : State} (h : s.Live) (hkey : s.key1 = true) :
    finish (exec .stop s) = .refused (.unmodelled .doubleSpeed) := by
  have hskipped : (s.setPc (s.cpu.pc + 1)).Live := h
  have hrun : (shape .stop).run s = { s.setPc (s.cpu.pc + 1) with refused := some .doubleSpeed } :=
    (enterStop_marks hkey).trans (markRefused_live hskipped .doubleSpeed)
  rw [exec_eq_shape, hrun]
  exact conclude_refused h.1 rfl

/-- Settles O36, one branch of STOP per clause. -/
theorem stop : Obligations.Stop := by
  unfold Obligations.Stop
  intro s
  refine ⟨fun hkey => ?_, fun hkey => ⟨_, exec_eq_shape .stop s, fun hlive => ?_⟩⟩
  · rw [exec_eq_shape]
    exact congrArg _ (enterStop_stops hkey)
  · rw [← exec_eq_shape]
    exact finish_stop_doubleSpeed hlive hkey

/-! ### The uses of unimplemented features -/

/-- A high-speed start stores nothing and is marked (60_exceptions.md R463, R468). -/
theorem writeSc_highSpeed {v : Byte} (hstart : v.getLsbD 7 = true) (hfast : v.getLsbD 1 = true) (s : State) :
    s.writeSc v = s.markRefused .highSpeedSerial :=
  if_pos (Bool.and_eq_true_iff.2 ⟨hstart, hfast⟩)

/-- Dot 0 of a visible line starts it (60_exceptions.md R440). -/
theorem lineEvents_start {s : State} (hline : s.ppu.ly < 144) (hdot : s.ppu.lineDot = 0) : s.lineEvents = s.startLine := by
  unfold State.lineEvents
  rw [if_neg (Nat.not_le.2 hline), if_pos hdot]

/-- Dot 80 of a visible line starts the transfer (60_exceptions.md R440, R441). -/
theorem lineEvents_transfer {s : State} (hline : s.ppu.ly < 144) (hdot : s.ppu.lineDot = 80) : s.lineEvents = s.startTransfer := by
  simp [State.lineEvents, Nat.not_le.2 hline, hdot]

/-- Examining an entry marks nothing (60_exceptions.md R448). -/
theorem examine_marks (i : Nat) (s : State) : (s.examine i).fatal = s.fatal ∧ (s.examine i).refused = s.refused := by
  obtain ⟨p, e⟩ := examine_eq i s
  rw [e]
  exact ⟨rfl, rfl⟩

/-- The start of a line with tall sprites enabled marks them before entry 0 is examined (60_exceptions.md R456). -/
theorem startLine_tallSprites {s : State} (htall : s.ppu.lcdc.getLsbD 2 = true) (hsprites : s.ppu.lcdc.getLsbD 1 = true) :
    s.startLine = (State.markRefused .tallSprites { s with ppu := { s.ppu with candidates := [], samples := [] } }).examine 0 :=
  congrArg (State.examine 0) (if_pos (Bool.and_eq_true_iff.2 ⟨htall, hsprites⟩))

/-- The start of a transfer with the window enabled marks it (60_exceptions.md R454). -/
theorem startTransfer_window {s : State} (hwindow : s.ppu.lcdc.getLsbD 5 = true) :
    s.startTransfer =
      State.markRefused .window { s with ppu := { s.ppu with transfer := s.transferDots, samples := [s.ppu.bgSample] } } :=
  if_pos hwindow

/-- Settles O54: each use sets the mark that `conclude` reads, and `step` reads it before anything else. -/
theorem refusalsEndTheRun : Obligations.RefusalsEndTheRun := by
  unfold Obligations.RefusalsEndTheRun
  intro s
  refine ⟨fun f => step_refused, fun m => step_fatal, fun hlive => ⟨finish_stop_doubleSpeed hlive, fun v => ?rp, ?serial, ?window, ?tall⟩⟩
  case rp => exact conclude_markRefused hlive .infrared
  case serial =>
    intro v hstart hfast
    show conclude (s.writeSc v) = _
    rw [writeSc_highSpeed hstart hfast]
    exact conclude_markRefused hlive .highSpeedSerial
  case window =>
    intro hline hdot hwindow
    rw [lineEvents_transfer hline hdot, startTransfer_window hwindow]
    refine conclude_markRefused ?_ .window
    exact hlive
  case tall =>
    intro hline hdot htall hsprites
    rw [lineEvents_start hline hdot, startLine_tallSprites htall hsprites, markRefused_live]
    · obtain ⟨hfatal, hrefused⟩ := examine_marks 0 _
      exact conclude_refused (hfatal.trans hlive.1) hrefused
    · exact hlive

end Sys2Proof.Machine

/-! SUPPORT. The statements on the boundary and on taking an interrupt (60_exceptions.md R400 to R428): a boundary of a core that is not frozen has
three branches, stopped, waiting in HALT, and awake, each an equation of its own. -/

namespace Sys2Proof.Machine

/-! ### The boundary -/

theorem eiTick_ime_iff (p : Cpu) : p.eiTick.ime = true ↔ p.ime = true ∨ p.eiDelay = 1 := by
  rw [eiTick_eq, or_comm]
  dsimp only
  split <;> simp_all

/-- What an awake core's boundary starts: the lowest pending line where IME, as the EI delay leaves it, lets it through, else an instruction
(60_exceptions.md R400, R412). -/
def State.started (s : State) : Start :=
  if s.cpu.eiTick.ime then (lowestLine s.pending).elim .instruction .dispatch else .instruction

theorem started_ne_idle (s : State) : s.started ≠ .idle := by
  unfold State.started
  split
  · cases lowestLine s.pending <;> exact nofun
  · exact nofun

theorem started_dispatch {s : State} {k : Line} (hime : s.cpu.eiTick.ime = true) (hk : lowestLine s.pending = some k) :
    s.started = .dispatch k := by
  simp [State.started, hime, hk]

theorem started_instruction {s : State} (h : s.cpu.eiTick.ime = false ∨ s.pending = 0) : s.started = .instruction := by
  obtain h | h := h
  · simp [State.started, h]
  · simp [State.started, h, lowestLine]

section Boundary

variable {s : State} (hfrozen : s.cpu.frozen = none)
include hfrozen

theorem boundary_stopped (hstopped : s.cpu.stopped = true) : s.boundary = (.idle, s.mapCpu Cpu.eiTick) := by
  simp [State.boundary, eiTick_eq, hfrozen, hstopped]

theorem boundary_halted (hhalted : s.cpu.halted = true) (hpending : s.pending = 0) :
    s.boundary = (.idle, s.mapCpu Cpu.eiTick) := by
  simp [State.boundary, eiTick_eq, hfrozen, hhalted, hpending]

/-- A core that neither is stopped nor waits in HALT wakes. -/
theorem boundary_awake (hrunning : s.cpu.stopped = false) (hwaits : s.cpu.halted = true → s.pending ≠ 0) :
    s.boundary = (s.started, s.wake) := by
  have hticked : s.cpu.eiTick.stopped = false ∧ ¬ (s.cpu.eiTick.halted = true ∧ s.pending = 0) := by
    rw [eiTick_eq]
    exact ⟨hrunning, fun ⟨hhalted, hpending⟩ => hwaits hhalted hpending⟩
  obtain ⟨hstopped, hhalted⟩ := hticked
  unfold State.boundary State.started State.wake
  simp only [hfrozen, mapCpu_cpu, mapCpu_pending, hstopped, if_neg hhalted, ne_eq, not_true_eq_false, if_false, Bool.false_eq_true]
  split
  · cases lowestLine s.pending <;> rfl
  · rfl

end Boundary

/-- Settles O11: the EI delay counts in each branch, and only the awake branch clears `halted`. -/
theorem deferredEnable : Obligations.DeferredEnable := by
  unfold Obligations.DeferredEnable
  intro s hfrozen
  by_cases hstopped : s.cpu.stopped = true
  · simp [boundary_stopped hfrozen hstopped, eiTick_eq, hstopped]
  have hrunning : s.cpu.stopped = false := by simpa using hstopped
  by_cases hwaits : s.cpu.halted = true ∧ s.pending = 0
  · obtain ⟨hhalted, hpending⟩ := hwaits
    simp [boundary_halted hfrozen hhalted hpending, eiTick_eq, hpending]
  · rw [boundary_awake hfrozen hrunning fun hhalted hpending => hwaits ⟨hhalted, hpending⟩]
    have hcleared : (if s.cpu.stopped = false ∧ s.pending ≠ 0 then false else s.cpu.halted) = false := by
      split
      case isTrue => rfl
      case isFalse h =>
        rw [not_and_not_right] at h
        simpa using fun hhalted => hwaits ⟨hhalted, h hrunning⟩
    rw [hcleared, State.wake, mapCpu_cpu, eiTick_eq]

/-- Settles O12, one branch of the boundary per clause. -/
theorem lowPowerBoundary : Obligations.LowPowerBoundary := by
  unfold Obligations.LowPowerBoundary
  intro s hfrozen
  refine ⟨fun hstopped => ?_, fun hhalted hpending => ?_, fun hrunning _ hpending => ?_⟩
  · rw [boundary_stopped hfrozen hstopped]
  · rw [boundary_halted hfrozen hhalted hpending]
  · rw [boundary_awake hfrozen hrunning fun _ => hpending]
    exact ⟨started_ne_idle s, rfl⟩

/-- Settles O13: a set bit of `pending` keeps the core awake, and with no set bit below it `lowestLine` finds it. -/
theorem boundaryDispatchesLowest : Obligations.BoundaryDispatchesLowest := by
  unfold Obligations.BoundaryDispatchesLowest
  intro s hfrozen hrunning
  refine ⟨fun k hime hk hlowest => ?dispatch, fun hnone hwaits => ?fetch⟩
  case dispatch =>
    have hpending : s.pending ≠ 0 := fun h => by simp [h] at hk
    rw [boundary_awake hfrozen hrunning fun _ => hpending]
    exact started_dispatch ((eiTick_ime_iff s.cpu).2 hime) (lowestLine_some s.pending k hk hlowest)
  case fetch =>
    rw [boundary_awake hfrozen hrunning hwaits]
    refine started_instruction (hnone.imp_left fun ⟨hime, hdelay⟩ => ?_)
    rw [← Bool.not_eq_true, eiTick_ime_iff, hime]
    exact not_or.2 ⟨nofun, hdelay⟩

/-! ### Taking an interrupt -/

/-- Settles O14: the two internal cycles keep the core, and the push is that of `afterPush`. -/
theorem interruptDispatch : Obligations.InterruptDispatch := by
  unfold Obligations.InterruptDispatch
  intro k s hqueue hrunning r c s0
  have hcpu : s0.nextCycle.cpu = c := nextCycle_awake s0 hrunning
  have hstopped : s0.nextCycle.cpu.stopped = false := by rw [hcpu]; exact hrunning
  have htaken : s.takeInterrupt k = ((s0.nextCycle.afterPush r).nextCycle).setPc (BitVec.ofNat 16 (0x40 + 8 * k.index)) :=
    congrArg (fun u : State => u.nextCycle.setPc k.vector)
      (pushWord_eq r s0.nextCycle ((nextCycle_queue s0).trans hqueue) hstopped)
  have hpushed : (s0.nextCycle.afterPush r).cpu = { c with sp := s.cpu.sp - 2 } := by
    rw [afterPush_cpu r s0.nextCycle hstopped, hcpu]
  refine ⟨htaken, ?_, (takeInterrupt_spends k s hqueue).mcycle⟩
  rw [htaken, setPc_cpu, nextCycle_awake _ (by rw [hpushed]; exact hrunning), hpushed]

end Sys2Proof.Machine

/-! SUPPORT. The statements on the timer (60_exceptions.md R460) and the serial collaborator (R463): what the timer does after a count or a write,
said once for all three actions, and what a write of SC stores and starts. -/

namespace Sys2Proof.Machine

/-! ### The timer -/

/-- The gated bit has gone from 1, as stored, to 0 (60_exceptions.md R460). -/
def Timer.falls (t : Timer) : Bool := t.gate && !t.gated

/-- TIMA's increment: from 0xFF it takes TMA and line 2 is requested (60_exceptions.md R460). -/
theorem timaIncrement_eq (s : State) : s.timaIncrement =
    { s with
      timer := { s.timer with tima := if s.timer.tima = 0xFF then s.timer.tma else s.timer.tima + 1 }
      irq := { s.irq with flags := if s.timer.tima = 0xFF then s.irq.flags ||| 4 else s.irq.flags } } := by
  unfold State.timaIncrement
  split <;> rfl

/-- What the default timer does after a count or a write: the gated bit is stored, and its fall increments TIMA (60_exceptions.md R460). -/
theorem gateEdge_eq (s : State) : s.gateEdge =
    { s with
      timer := { s.timer with
        gate := s.timer.gated
        tima := if s.timer.falls then (if s.timer.tima = 0xFF then s.timer.tma else s.timer.tima + 1) else s.timer.tima }
      irq := { s.irq with flags := if s.timer.falls && s.timer.tima == 0xFF then s.irq.flags ||| 4 else s.irq.flags } } := by
  unfold State.gateEdge
  dsimp only
  split
  case isTrue h =>
    rw [show s.timer.falls = true from h, timaIncrement_eq]
    simp only [Bool.true_and, beq_iff_eq, if_true]
  case isFalse h => rw [show s.timer.falls = false from Bool.eq_false_iff.2 h]; rfl

/-- What an action of the default timer in a state s leaves in t: the stored gate bit is again the gated bit as it stands, and TIMA has been
incremented exactly where that bit went from 1 to 0 (60_exceptions.md R460). -/
def State.TimerEffect (s t : State) : Prop :=
  let falls := s.timer.gated && !t.timer.gated
  t.TimerInv ∧ t.timer.tma = s.timer.tma ∧
    t.timer.tima = (if falls then (if s.timer.tima = 0xFF then s.timer.tma else s.timer.tima + 1) else s.timer.tima) ∧
    t.irq.flags = if falls && s.timer.tima == 0xFF then s.irq.flags ||| 4 else s.irq.flags

/-- The timer acts after its counter or TAC has taken a new value: since the stored gate bit is the gated bit of before, what falls is that
bit. -/
theorem timerEdge_effect (e : Config.TimerEvent) {s : State} (hmodel : s.params.timerModel = .standard) (hinv : s.TimerInv)
    (sys : BitVec 16) (tac : BitVec 3) :
    s.TimerEffect (State.timerEdge e { s with timer := { s.timer with sys := sys, tac := tac } }) := by
  refine ⟨timerEdge_timerInv e _, ?_⟩
  have hedge : State.timerEdge e { s with timer := { s.timer with sys := sys, tac := tac } } =
      State.gateEdge { s with timer := { s.timer with sys := sys, tac := tac } } := by
    simp only [State.timerEdge, hmodel]
  rw [hedge, gateEdge_eq, ← hinv hmodel]
  exact ⟨rfl, rfl, rfl⟩

/-- Settles O45: the three actions set the counter or TAC, and then the timer acts in one way. -/
theorem timerRule : Obligations.TimerRule := by
  unfold Obligations.TimerRule
  refine ⟨rfl, fun s => ⟨rfl, hi_toNat s.timer.sys, fun hmodel hinv => ?_⟩⟩
  have hcount : s.nextSys = s.timer.sys + 1 := by simp only [State.nextSys, hmodel]
  refine ⟨?count, fun v => ⟨?divWrite, ?tacWrite⟩⟩
  case count =>
    obtain ⟨hsys, htac⟩ := timerEdge_kept_counter .count { s with timer := { s.timer with sys := s.nextSys } }
    exact ⟨timerEdge_effect .count hmodel hinv s.nextSys s.timer.tac, hsys.trans hcount, htac⟩
  case divWrite =>
    obtain ⟨hsys, htac⟩ := timerEdge_kept_counter .divWrite { s with timer := { s.timer with sys := 0 } }
    exact ⟨timerEdge_effect .divWrite hmodel hinv 0 s.timer.tac, hsys, htac⟩
  case tacWrite =>
    obtain ⟨hsys, htac⟩ := timerEdge_kept_counter .tacWrite { s with timer := { s.timer with tac := BitVec.ofNat 3 v.toNat } }
    exact ⟨timerEdge_effect .tacWrite hmodel hinv s.timer.sys (BitVec.ofNat 3 v.toNat), hsys,
      (congrArg BitVec.toNat htac).trans (BitVec.toNat_ofNat _ 3)⟩

/-! ### Serial transfers -/

/-- A byte goes to the host's stream, whatever its scan finds; no completion becomes due by it (60_exceptions.md R463, R464). -/
theorem send_stream (p : Params) (v : Byte) (t : Serial) : (t.send p v).out = t.out ++ [v] ∧ (t.send p v).due = t.due := by
  unfold Serial.send Serial.scan
  split <;> exact ⟨rfl, rfl⟩

theorem writeIo_sc (v : Byte) (s : State) : s.writeIo 0xFF02 v = s.writeSc v := rfl

/-- SC's bits as a write stores them (20_memory.md R142). -/
def State.withControl (v : Byte) (s : State) : State :=
  { s with serial := { s.serial with start := v.getLsbD 7, fast := v.getLsbD 1, clock := v.getLsbD 0 } }

/-- A write of SC that is no high-speed start stores the bits, and the collaborator acts on them. -/
theorem writeSc_stores {v : Byte} (h : v.getLsbD 7 = false ∨ v.getLsbD 1 = false) (s : State) :
    s.writeSc v =
      match s.params.serialEvent with
      | .standard => (s.withControl v).standardSerial
      | .other n => (s.withControl v).otherSerial n := by
  have hslow : ¬ (bitOf v 7 && bitOf v 1) = true := Bool.eq_false_iff.1 (Bool.and_eq_false_iff.2 h)
  unfold State.writeSc
  rw [if_neg hslow]
  rfl

theorem standardSerial_starts {s : State} (hstart : s.serial.start = true) (hclock : s.serial.clock = true) :
    s.standardSerial.serial.out = s.serial.out ++ [s.serial.sb] ∧ s.standardSerial.serial.due = s.serial.due ++ [s.dot + 4095] := by
  unfold State.standardSerial
  rw [hstart, hclock]
  exact send_stream s.params s.serial.sb { s.serial with due := s.serial.due ++ [s.dot + 4095] }

/-- With the external clock, or without a start, the default collaborator does nothing. -/
theorem standardSerial_idle {s : State} (h : s.serial.start = false ∨ s.serial.clock = false) : s.standardSerial = s :=
  if_neg (Bool.eq_false_iff.1 (Bool.and_eq_false_iff.2 h))

theorem otherSerial_idle (n : Nat) {s : State} (h : s.serial.start = false) : s.otherSerial n = s := by
  unfold State.otherSerial
  rw [h]

/-- A write with bit 7 = 0 starts nothing, under every model (60_exceptions.md R463). -/
theorem writeSc_startsNothing {v : Byte} (hstart : v.getLsbD 7 = false) (s : State) : s.writeSc v = s.withControl v := by
  rw [writeSc_stores (.inl hstart)]
  split
  · exact standardSerial_idle (.inl hstart)
  · exact otherSerial_idle _ hstart

/-- Settles O52: a write of SC is refused, or stores its bits and starts what they ask for; a dot completes what is due. -/
theorem serialTransfer : Obligations.SerialTransfer := by
  unfold Obligations.SerialTransfer
  intro s
  refine ⟨fun hmodel => ⟨fun v hstart hslow hclock => ?internal, fun v hstart hslow hclock => ?external, fun hdue => ?due,
    fun hdue => ?idle⟩, fun v hstart hfast hlive => ?refused, fun v hstart => ?startsNothing⟩
  case internal =>
    have hwrite : s.writeIo 0xFF02 v = (s.withControl v).standardSerial := by
      rw [writeIo_sc, writeSc_stores (.inr hslow), hmodel]
    rw [hwrite]
    exact standardSerial_starts hstart hclock
  case external =>
    have hwrite : s.writeIo 0xFF02 v = s.withControl v := by
      rw [writeIo_sc, writeSc_stores (.inr hslow), hmodel]
      exact standardSerial_idle (.inr hclock)
    rw [hwrite]
    exact ⟨rfl, rfl⟩
  case due =>
    simp only [State.serialDot, hmodel, State.standardSerialDot, if_pos hdue]
    exact ⟨rfl, rfl, rfl⟩
  case idle => simp only [State.serialDot, hmodel, State.standardSerialDot, if_neg hdue]
  case startsNothing =>
    rw [writeIo_sc, writeSc_startsNothing hstart, State.withControl, hstart]
  case refused =>
    rw [writeIo_sc, writeSc_highSpeed hstart hfast]
    exact conclude_markRefused hlive .highSpeedSerial

end Sys2Proof.Machine

/-! SUPPORT. The statements on the picture pipeline (60_exceptions.md R440 to R450): which events each dot of a line has, how the counters advance,
the mode, the STAT line, the OAM search and the display switched off and on. -/

namespace Sys2Proof.Machine

/-! ### The dot -/

theorem ppuDot_on {s : State} (h : s.ppu.lcdOn = true) : s.ppuDot = s.lineAdvance.lineEvents.statDot := if_pos h

theorem ppuDot_off {s : State} (h : s.ppu.lcdOn = false) : s.ppuDot = s.statDot := if_neg (Bool.eq_false_iff.1 h)

/-- The STAT line of a dot, and its edge's request of line 1 (60_exceptions.md R447). -/
theorem statDot_requests (s : State) : s.statDot =
    { s with
      ppu := { s.ppu with statLine := s.statNow }
      irq := { s.irq with flags := if s.statNow && !s.statBefore then s.irq.flags ||| 2 else s.irq.flags } } := by
  unfold State.statDot
  dsimp only
  split <;> rfl

/-- Settles O50: with the default `statIrq` the line is the pipeline's condition, and what it was before is the stored line. -/
theorem statInterrupt : Obligations.StatInterrupt := by
  unfold Obligations.StatInterrupt
  refine fun s => ⟨(apply_ite State.statDot _ _ _).symm, fun hmodel => ?_⟩
  have hnow : s.statNow = s.ppu.statCondition := by simp only [State.statNow, hmodel]
  have hbefore : s.statBefore = s.ppu.statLine := by simp only [State.statBefore, hmodel]
  rw [statDot_requests, hnow, hbefore]
  refine ⟨rfl, if_congr ?_ rfl rfl⟩
  rw [Bool.and_eq_true, Bool.not_eq_true']
  exact Iff.rfl

/-! ### The advance of the lines -/

/-- The events of a dot move no counter and request nothing. -/
theorem lineEvents_counters (s : State) :
    s.lineEvents.ppu.lineDot = s.ppu.lineDot ∧ s.lineEvents.ppu.ly = s.ppu.ly ∧ s.lineEvents.irq = s.irq := by
  obtain ⟨cs, l, n, m, r, e, -⟩ := lineEvents_eq s
  rw [e]
  exact ⟨rfl, rfl, rfl⟩

/-- The counters after a dot with the display enabled: 456 dots a line, 154 lines (60_exceptions.md R442). -/
theorem ppuDot_counters {s : State} (hon : s.ppu.lcdOn = true) (hline : s.ppu.ly < 154) (hdot : s.ppu.lineDot < 456) :
    s.ppuDot.ppu.lineDot = (s.ppu.lineDot + 1) % 456 ∧
      s.ppuDot.ppu.ly = if s.ppu.lineDot = 455 then (s.ppu.ly + 1) % 154 else s.ppu.ly := by
  obtain ⟨q, hadvance⟩ := lineAdvance_eq s
  obtain ⟨hld, hly, -⟩ := lineEvents_counters s.lineAdvance
  rw [ppuDot_on hon, statDot_requests]
  dsimp only
  rw [hld, hly, hadvance]
  dsimp only
  constructor
  · split <;> omega
  · split_ifs <;> omega

/-- The advance requests line 0 exactly where the line becomes 144 (60_exceptions.md R442). -/
theorem lineAdvance_flags (s : State) : s.lineAdvance.irq.flags =
    if s.ppu.lineDot = 455 ∧ s.ppu.ly = 143 then s.irq.flags ||| 1 else s.irq.flags := by
  unfold State.lineAdvance
  by_cases hend : s.ppu.lineDot = 455
  · have hblank : (if s.ppu.ly + 1 = 154 then 0 else s.ppu.ly + 1) = 144 ↔ s.ppu.ly = 143 := by split <;> omega
    simp only [hend, if_true, hblank, true_and]
    split <;> rfl
  · rw [if_neg (by omega), if_neg fun h => hend h.1]

/-- Bit 0 of IF sees only the request of line 0. -/
theorem getLsbD_request (f : BitVec 5) (p : Prop) [Decidable p] :
    (if p then f ||| 2 else f).getLsbD 0 = f.getLsbD 0 ∧ (if p then f ||| 1 else f).getLsbD 0 = (f.getLsbD 0 || decide p) := by
  by_cases h : p <;> simp [h]

/-- The modes of a visible line, in the order of its dots (60_exceptions.md R440). -/
theorem mode_visible {p : Ppu} (hon : p.lcdOn = true) (hline : p.ly < 144) :
    (p.mode = .oamSearch ↔ p.lineDot < 80) ∧ (p.mode = .lcdTransfer ↔ 80 ≤ p.lineDot ∧ p.lineDot < 80 + p.transfer) ∧
      (p.mode = .hBlank ↔ 80 + p.transfer ≤ p.lineDot) ∧ p.mode ≠ .vBlank := by
  simp only [Ppu.mode, hon, Bool.not_true, Bool.false_eq_true, if_false, if_neg (Nat.not_le.2 hline)]
  split_ifs <;> simp <;> omega

theorem ppuDot_lcdOn (s : State) : s.ppuDot.ppu.lcdOn = s.ppu.lcdOn := by
  unfold Ppu.lcdOn
  rw [(ppuDot_kept s).lcdc]

/-- Settles O46: the events and the STAT line of the dot move no counter and leave IF bit 0 to the advance. -/
theorem lineAdvance : Obligations.LineAdvance := by
  unfold Obligations.LineAdvance
  intro s hon hline hdot t
  obtain ⟨hld, hly⟩ := ppuDot_counters hon hline hdot
  refine ⟨hld, hly, ?request, fun hend hlast => ?mode⟩
  case request =>
    show s.ppuDot.irq.flags.getLsbD 0 = _
    rw [ppuDot_on hon, statDot_requests]
    dsimp only
    rw [(getLsbD_request _ _).1, (lineEvents_counters _).2.2, lineAdvance_flags, (getLsbD_request _ _).2, Bool.decide_and]
    rfl
  case mode =>
    rw [hend] at hld
    rw [if_pos hend, hlast] at hly
    exact (mode_visible ((ppuDot_lcdOn s).trans hon) (hly.trans_lt (by decide))).1.2 (hld.trans_lt (by decide))

/-! ### The modes of a visible line -/

/-- The numbers below n from a to b are b - a. -/
theorem count_between {a b n : Nat} (h : b ≤ n) : ((List.range n).filter fun d => decide (a ≤ d) && decide (d < b)).length = b - a := by
  rw [← List.filter_filter, ← List.Ico.zero_bot, List.Ico.filter_lt, List.Ico.filter_le, List.Ico.length]
  omega

/-- A mode that stands in the dots from a to b of a line lasts b - a dots. -/
theorem modeDots {p : Ppu} {m : Mode} {a b : Nat} (hb : b ≤ 456)
    (h : ∀ d < 456, ({ p with lineDot := d } : Ppu).mode = m ↔ a ≤ d ∧ d < b) :
    ((List.range 456).filter fun d => ({ p with lineDot := d } : Ppu).mode == m).length = b - a := by
  rw [← count_between hb]
  congr 1
  refine List.filter_congr fun d hd => ?_
  rw [Bool.eq_iff_iff, beq_iff_eq, h d (List.mem_range.1 hd)]
  simp

/-- Settles O47: each mode of a visible line stands in one range of dots, V_BLANK in none. -/
theorem scanlineSum : Obligations.ScanlineSum := by
  unfold Obligations.ScanlineSum
  intro p hon hline hmost count
  have hmode (d : Nat) := mode_visible (p := { p with lineDot := d }) hon hline
  simp only [forall_and] at hmode
  obtain ⟨hsearch, htransfer, hhBlank, hvBlank⟩ := hmode
  have h1 : count .oamSearch = 80 - 0 := modeDots (by omega) fun d _ => (hsearch d).trans (by simp)
  have h2 : count .lcdTransfer = 80 + p.transfer - 80 := modeDots (by omega) fun d _ => htransfer d
  have h3 : count .hBlank = 456 - (80 + p.transfer) := modeDots le_rfl fun d hd => (hhBlank d).trans (by simp [hd])
  have h4 : count .vBlank = 0 - 0 := modeDots (Nat.zero_le _) fun d _ => iff_of_false (hvBlank d) (by omega)
  omega

/-! ### The OAM search -/

theorem selected_iff (e : Sprite) (ly : Nat) :
    e.selected ly = true ↔ e.y.toNat ≤ ly + 16 ∧ ly + 16 < e.y.toNat + 8 ∧ 0 < e.x.toNat := by
  simp only [Sprite.selected, Bool.and_eq_true, decide_eq_true_eq, and_assoc]

/-- The examination of an entry, by the four bytes of the table (60_exceptions.md R448). -/
theorem examine_candidates (i : Nat) (s : State) : (s.examine i).ppu.candidates =
    if s.ppu.candidates.length < 10 ∧ (s.oamByte i 0).toNat ≤ s.ppu.ly + 16 ∧ s.ppu.ly + 16 < (s.oamByte i 0).toNat + 8 ∧
        0 < (s.oamByte i 1).toNat
      then s.ppu.candidates ++ [s.oamEntry i] else s.ppu.candidates := by
  unfold State.examine
  simp only [apply_ite State.ppu, apply_ite Ppu.candidates]
  refine if_congr ?_ rfl rfl
  rw [Bool.and_eq_true, decide_eq_true_iff, selected_iff]
  exact Iff.rfl

/-- An even dot of the search, after the first, examines the entry of half its number (60_exceptions.md R448). -/
theorem lineEvents_even {s : State} (hline : s.ppu.ly < 144) {i : Nat} (h0 : 0 < i) (h40 : i < 40) (hdot : s.ppu.lineDot = 2 * i) :
    s.lineEvents = s.examine i := by
  have hhalf : 2 * i / 2 = i := by omega
  unfold State.lineEvents
  rw [if_neg (by omega), if_neg (by omega), if_pos (by omega), if_pos (by omega), hdot, hhalf]

theorem lineEvents_odd {s : State} (hdot : s.ppu.lineDot < 80) (hodd : s.ppu.lineDot % 2 = 1) : s.lineEvents = s := by
  unfold State.lineEvents
  rw [if_neg (show ¬ s.ppu.lineDot = 0 by omega), if_pos hdot, if_neg (show ¬ s.ppu.lineDot % 2 = 0 by omega), ite_self]

/-- The dots of the transfer after its first sample a group where one is due and emit a pixel where one is due (60_exceptions.md R452, R453). -/
theorem lineEvents_pixel {s : State} (hline : s.ppu.ly < 144) (hdot : 80 < s.ppu.lineDot) : s.lineEvents = s.sampleGroup.emit := by
  unfold State.lineEvents
  rw [if_neg (by omega), if_neg (by omega), if_neg (by omega), if_neg (by omega)]

theorem lineEvents_vblank {s : State} (h : 144 ≤ s.ppu.ly) : s.lineEvents = s := if_pos h

/-- A dot of the search changes the line's lists and may mark a refusal (60_exceptions.md R448, R456). -/
theorem lineEvents_search {s : State} (hdot : s.ppu.lineDot < 80) : ∃ cs l r,
    s.lineEvents = { s with ppu := { s.ppu with candidates := cs, samples := l }, refused := r } := by
  unfold State.lineEvents
  rw [if_pos hdot]
  split
  · exact ⟨_, _, _, rfl⟩
  split
  · obtain ⟨cs, r, e, -⟩ := startLine_candidates s
    exact ⟨cs, [], r, e⟩
  split
  · obtain e | ⟨-, e⟩ := examine_cases (s.ppu.lineDot / 2) s <;> exact ⟨_, _, _, e⟩
  · exact ⟨_, _, _, rfl⟩

/-- A dot of the transfer, after its first, keeps the transfer's length. -/
theorem emitted_transfer (s : State) : s.sampleGroup.emit.ppu.transfer = s.ppu.transfer := by
  obtain ⟨m, e, -⟩ := emit_eq s.sampleGroup
  obtain ⟨l, e'⟩ := sampleGroup_eq s
  rw [e, e']

/-- T is fixed at `lineDot = 80` alone (60_exceptions.md R441). -/
theorem lineEvents_transfer_other {s : State} (h : s.ppu.lineDot ≠ 80) : s.lineEvents.ppu.transfer = s.ppu.transfer := by
  by_cases hline : s.ppu.ly < 144
  · obtain hsearch | hpixel := Nat.lt_or_gt_of_ne h
    · obtain ⟨cs, l, r, e⟩ := lineEvents_search hsearch
      rw [e]
    · rw [lineEvents_pixel hline hpixel, emitted_transfer]
  · rw [lineEvents_vblank (Nat.not_lt.1 hline)]

theorem startTransfer_transfer (s : State) : s.startTransfer.ppu.transfer = s.transferDots := by
  obtain ⟨r, e⟩ := startTransfer_eq s
  rw [e]

/-- A line begins with the list empty, and its entry 0 is examined (60_exceptions.md R448). -/
theorem startLine_examines (s : State) : s.startLine.ppu.candidates =
    (({ s with ppu := { s.ppu with candidates := [] } } : State).examine 0).ppu.candidates := by
  have hfirst : ∃ r, s.startLine =
      State.examine 0 { s with ppu := { s.ppu with candidates := [], samples := [] }, refused := r } := by
    unfold State.startLine
    dsimp only
    split
    · obtain ⟨r, e⟩ := markRefused_eq .tallSprites { s with ppu := { s.ppu with candidates := [], samples := [] } }
      exact ⟨r, congrArg _ e⟩
    · exact ⟨s.refused, rfl⟩
  obtain ⟨r, e⟩ := hfirst
  rw [e, examine_candidates, examine_candidates]
  rfl

/-- Settles O48: each dot of a visible line up to 80 has one event at most, and the transfer's length is set in the last of them alone. -/
theorem oamSearch : Obligations.OamSearch := by
  unfold Obligations.OamSearch
  refine fun s => ⟨fun i => examine_candidates i s, fun hline => ⟨fun i h0 h40 hdot => lineEvents_even hline h0 h40 hdot,
    fun hdot hodd => lineEvents_odd hdot hodd, fun hdot => ?start, fun hdot => ?transfer, lineEvents_transfer_other⟩⟩
  case start => rw [lineEvents_start hline hdot, startLine_examines]
  case transfer =>
    rw [lineEvents_transfer hline hdot, startTransfer_transfer]
    refine ⟨rfl, fun hroom => ?_⟩
    obtain ⟨hleast, hmost⟩ := transferDots_range s hroom
    refine ⟨hleast, hmost, fun hmodel => ?_⟩
    have hlength : s.transferDots = 172 + s.ppu.scx.toNat % 8 + 6 * s.ppu.candidates.length := by
      simp only [State.transferDots, hmodel, Ppu.transferDots]
    exact ⟨hlength, by omega⟩

/-! ### The display switched off and on again -/

section Off

variable {s : State} (hoff : s.ppu.lcdOn = false)
include hoff

theorem mode_off : s.ppu.mode = .hBlank := by simp [Ppu.mode, hoff]

/-- A disabled display requests nothing, under every `statIrq` (60_exceptions.md R447, R450). -/
theorem statNow_off : s.statNow = false := by
  unfold State.statNow
  split
  · simp [Ppu.statCondition, hoff]
  · simp [hoff]

theorem ppuDot_stands : s.ppuDot = { s with ppu := { s.ppu with statLine := false } } := by
  rw [ppuDot_off hoff, statDot_requests, statNow_off hoff]
  rfl

theorem statByte_off : s.ppu.statByte.toNat % 4 = 0 := by
  unfold Ppu.statByte
  rw [mode_off hoff, BitVec.toNat_ofNat]
  split <;> simp only [Mode.code] <;> omega

/-- A write that enables the display puts the pipeline at line 0, dot 0 (60_exceptions.md R450). -/
theorem writeLcdc_starts {v : Byte} (hv : v.getLsbD 7 = true) :
    (s.writeLcdc v).ppu.lcdOn = true ∧ (s.writeLcdc v).ppu.ly = 0 ∧ (s.writeLcdc v).ppu.lineDot = 0 := by
  obtain ⟨h, -⟩ | ⟨h, -⟩ | ⟨cs, r, e, -⟩ := writeLcdc_cases v s
  · exact absurd (hv.symm.trans h) nofun
  · exact absurd (h.symm.trans hoff) nofun
  · rw [e]
    exact ⟨hv, rfl, rfl⟩

end Off

theorem writeLcdc_stops {v : Byte} (hv : v.getLsbD 7 = false) (s : State) :
    s.writeLcdc v = { s with ppu := { s.ppu with lcdc := v, ly := 0, lineDot := 0 } } :=
  if_pos (congrArg not hv)

/-- Settles O49: with the display disabled only the stored STAT line moves, and the write that enables it begins at dot 0, where the next dot
advances it. -/
theorem displayOff : Obligations.DisplayOff := by
  unfold Obligations.DisplayOff
  refine fun s => ⟨fun v hv => ?stops, fun hoff => ⟨ppuDot_stands hoff, statByte_off hoff, ?vram, ?oam, ?copy, fun v hv => ?starts⟩⟩
  case stops =>
    rw [show s.writeIo 0xFF40 v = s.writeLcdc v from rfl, writeLcdc_stops hv]
    exact ⟨rfl, hv, rfl⟩
  case vram => simp [State.vramBlocked, hoff]
  case oam => simp [State.oamBlocked, hoff]
  case copy => simp [State.frameCopy, hoff]
  case starts =>
    intro t
    obtain ⟨hon, hly, hdot⟩ : t.ppu.lcdOn = true ∧ t.ppu.ly = 0 ∧ t.ppu.lineDot = 0 := writeLcdc_starts hoff hv
    obtain ⟨hnextDot, hnextLine⟩ := ppuDot_counters hon (by omega) (by omega)
    refine ⟨hly, hdot, (mode_visible hon (by omega)).1.2 (by omega), ?_, ?_⟩
    · rw [hnextDot, hdot]
    · rw [hnextLine, hdot, hly]; rfl

end Sys2Proof.Machine

/-! SUPPORT. The statement on the emission of pixels (60_exceptions.md R449 to R455): where a dot stores a shade, the background's and the
candidates' colour indexes, which candidate wins, the shade, and the length of the pixel queue. -/

namespace Sys2Proof.Machine

/-! ### Colour indexes -/

/-- A pixel of a tile row is one of four. -/
theorem tilePixel_le (lo hi : Byte) (b : Nat) : tilePixel lo hi b ≤ 3 := by
  have hlow := Bool.toNat_le (bitOf lo b)
  have hhigh := Bool.toNat_le (bitOf hi b)
  unfold tilePixel
  omega

theorem spriteIndex_le (s : State) (e : Sprite) (x : Nat) : s.spriteIndex e x ≤ 3 := by
  unfold State.spriteIndex
  split
  · exact tilePixel_le _ _ _
  · exact Nat.zero_le 3

/-- Tile numbers unsigned from 0x8000, or signed from 0x9000, are those of `tileAddr` (60_exceptions.md R452). -/
theorem tileAddr_eq (lcdc t : Byte) :
    (if lcdc.getLsbD 4 then 0x8000 + 16 * (t.toNat : Int) else 0x9000 + 16 * signedByte t).toNat = tileAddr lcdc t := by
  have ht := t.isLt
  unfold tileAddr signedByte bitOf
  split_ifs <;> omega

/-- The background's index is that of R452, from the sample of the column's group. -/
theorem bgIndex_rule (s : State) (x : Nat) : BackgroundRule s (s.sampleFor (x + s.ppu.discard)) x (s.bgIndex x) := by
  unfold BackgroundRule State.bgIndex State.bgColumn bitOf
  dsimp only
  generalize s.sampleFor (x + s.ppu.discard) = r
  rw [tileAddr_eq]
  cases r.lcdc.getLsbD 0 <;> rfl

/-- A candidate's index is that of R455. -/
theorem spriteIndex_rule (s : State) (e : Sprite) (x : Nat) : SpriteRule s e x (s.spriteIndex e x) := by
  unfold SpriteRule State.spriteIndex
  simp only [Bool.and_eq_true, decide_eq_true_eq]
  rfl

/-! ### The winning candidate -/

theorem spriteWinner_mem {es : List Sprite} {w : Sprite} (h : spriteWinner es = some w) : w ∈ es := by
  induction es with
  | nil => cases h
  | cons e es ih =>
    unfold spriteWinner at h
    cases hes : spriteWinner es with
    | none =>
      rw [hes] at h
      exact Option.some.inj h ▸ List.mem_cons_self
    | some v =>
      rw [hes] at h
      dsimp only at h
      split at h
      · exact List.mem_cons_of_mem _ (ih (hes.trans h))
      · exact Option.some.inj h ▸ List.mem_cons_self

/-- In a list in table order, the entry of smallest X, of equal X the one of lowest index, is the winner (60_exceptions.md R455). -/
theorem spriteWinner_eq {es : List Sprite} {w : Sprite} (hordered : es.Pairwise fun d e => d.index < e.index) (hmem : w ∈ es)
    (hwins : ∀ e ∈ es, w.x.toNat < e.x.toNat ∨ (w.x = e.x ∧ w.index ≤ e.index)) : spriteWinner es = some w := by
  induction es with
  | nil => cases hmem
  | cons e es ih =>
    obtain ⟨hfirst, hrest⟩ := List.pairwise_cons.1 hordered
    unfold spriteWinner
    obtain rfl | hlater := List.mem_cons.1 hmem
    · cases hes : spriteWinner es with
      | none => rfl
      | some v =>
        have hle : w.x.toNat ≤ v.x.toNat := by
          obtain h | ⟨h, -⟩ := hwins v (List.mem_cons_of_mem _ (spriteWinner_mem hes))
          · exact h.le
          · exact (congrArg BitVec.toNat h).le
        exact if_neg (Nat.not_lt.2 hle)
    · have hsmaller : w.x.toNat < e.x.toNat :=
        (hwins e List.mem_cons_self).resolve_right fun ⟨_, hindex⟩ => Nat.not_le.2 (hfirst w hlater) hindex
      rw [ih hrest hlater fun d hd => hwins d (List.mem_cons_of_mem _ hd)]
      exact if_pos hsmaller

section SpritePixel

variable (s : State) (x : Nat)

theorem defaultSpritePixel_disabled (h : s.ppu.lcdc.getLsbD 1 = false) : s.defaultSpritePixel x = none :=
  if_pos (congrArg not h)

/-- The default sprite pixel with sprites enabled is the winner's among the candidates that are not transparent (60_exceptions.md R455). -/
theorem defaultSpritePixel_enabled (h : s.ppu.lcdc.getLsbD 1 = true) : s.defaultSpritePixel x =
    (spriteWinner (s.ppu.candidates.filter fun e => s.spriteIndex e x ≠ 0)).map fun e =>
      { index := s.spriteIndex e x, obp1 := bitOf e.attrs 4, front := !bitOf e.attrs 7 } := by
  unfold State.defaultSpritePixel
  rw [if_neg (show ¬ (!bitOf s.ppu.lcdc 1) = true from Bool.eq_false_iff.1 (congrArg not h))]
  cases spriteWinner (s.ppu.candidates.filter fun e => s.spriteIndex e x ≠ 0) <;> rfl

theorem defaultSpritePixel_transparent (h : ∀ e ∈ s.ppu.candidates, s.spriteIndex e x = 0) : s.defaultSpritePixel x = none := by
  cases hbit : s.ppu.lcdc.getLsbD 1 with
  | false => exact defaultSpritePixel_disabled s x hbit
  | true =>
    have hnone : s.ppu.candidates.filter (fun e => s.spriteIndex e x ≠ 0) = [] :=
      List.filter_eq_nil_iff.2 fun e he => by simp [h e he]
    rw [defaultSpritePixel_enabled s x hbit, hnone]
    rfl

theorem defaultSpritePixel_wins (henabled : s.ppu.lcdc.getLsbD 1 = true)
    (hordered : s.ppu.candidates.Pairwise fun d e => d.index < e.index) {w : Sprite} (hw : SpriteWins s w x) :
    s.defaultSpritePixel x =
      some { index := s.spriteIndex w x, obp1 := w.attrs.getLsbD 4, front := !w.attrs.getLsbD 7 } := by
  obtain ⟨hmem, hopaque, hwins⟩ := hw
  have hfilter (e : Sprite) : e ∈ s.ppu.candidates.filter (fun e => s.spriteIndex e x ≠ 0) ↔
      e ∈ s.ppu.candidates ∧ s.spriteIndex e x ≠ 0 := by simp
  have hwinner : spriteWinner (s.ppu.candidates.filter fun e => s.spriteIndex e x ≠ 0) = some w :=
    spriteWinner_eq (hordered.filter _) ((hfilter w).2 ⟨hmem, hopaque⟩) fun e he =>
      hwins e ((hfilter e).1 he).1 ((hfilter e).1 he).2
  rw [defaultSpritePixel_enabled s x henabled, hwinner]
  rfl

/-- A sprite pixel's colour index is 1 to 3, under every `spritePixel` (60_exceptions.md R455). -/
theorem spritePixel_index {p : SpritePixel} (h : s.spritePixel x = some p) : 1 ≤ p.index ∧ p.index ≤ 3 := by
  unfold State.spritePixel at h
  split at h
  · cases hbit : s.ppu.lcdc.getLsbD 1 with
    | false => exact absurd ((defaultSpritePixel_disabled s x hbit).symm.trans h) nofun
    | true =>
      rw [defaultSpritePixel_enabled s x hbit] at h
      obtain ⟨e, he, rfl⟩ := Option.map_eq_some_iff.1 h
      have hopaque := (List.mem_filter.1 (spriteWinner_mem he)).2
      exact ⟨Nat.one_le_iff_ne_zero.2 (by simpa using hopaque), spriteIndex_le s e x⟩
  · obtain ⟨r, -, rfl⟩ := Option.map_eq_some_iff.1 h
    exact ⟨Nat.le_add_left 1 _, r.1.isLt⟩

end SpritePixel

/-! ### The shade -/

theorem paletteShade_toNat (palette : Byte) (n : Nat) : (paletteShade palette n).toNat = palette.toNat / 4 ^ n % 4 := by
  unfold paletteShade
  rw [BitVec.toNat_ofNat]
  exact Nat.mod_eq_of_lt ((Nat.mod_lt _ (by decide)).trans (by decide))

/-- The background's shade at a column: its index through BGP, 0 with the background off (60_exceptions.md R453). -/
def State.bgShade (s : State) (x : Nat) : Byte :=
  if bitOf (s.sampleFor (x + s.ppu.discard)).lcdc 0 then paletteShade s.ppu.bgp (s.bgIndex x) else 0

theorem bgShade_toNat (s : State) (x : Nat) : (s.bgShade x).toNat =
    if (s.sampleFor (x + s.ppu.discard)).lcdc.getLsbD 0 then s.ppu.bgp.toNat / 4 ^ s.bgIndex x % 4 else 0 := by
  unfold State.bgShade
  rw [apply_ite BitVec.toNat, paletteShade_toNat]
  rfl

theorem pixelShade_background {s : State} {x : Nat} (h : s.spritePixel x = none) : s.pixelShade x = s.bgShade x := by
  unfold State.pixelShade
  rw [h]
  rfl

theorem pixelShade_sprite {s : State} {x : Nat} {p : SpritePixel} (h : s.spritePixel x = some p) : s.pixelShade x =
    if p.front = true ∨ s.bgIndex x = 0 then paletteShade (if p.obp1 then s.ppu.obp1 else s.ppu.obp0) p.index else s.bgShade x := by
  unfold State.pixelShade
  rw [h]
  exact if_congr (by simp) rfl rfl

/-! ### The emission -/

/-- The dot of pixel x stores its shade (60_exceptions.md R453). -/
theorem emit_now {s : State} {x : Nat} (hx : x < 160) (hdot : s.ppu.lineDot = 80 + s.ppu.transfer - 160 + x) :
    s.emit.ppu.frame = Memory.set Config.frameBlank s.ppu.frame (160 * s.ppu.ly + x) (s.pixelShade x) := by
  have hwindow : (decide (80 + s.ppu.transfer - 160 ≤ s.ppu.lineDot) &&
      decide (s.ppu.lineDot < 80 + s.ppu.transfer - 160 + 160)) = true := by
    simp only [hdot, Bool.and_eq_true, decide_eq_true_eq]
    omega
  have hcolumn : s.ppu.lineDot - (80 + s.ppu.transfer - 160) = x := by omega
  unfold State.emit
  dsimp only
  rw [if_pos hwindow, hcolumn]

/-- Every other dot stores nothing. -/
theorem emit_other {s : State} (h : ∀ x < 160, s.ppu.lineDot ≠ 80 + s.ppu.transfer - 160 + x) : s.emit = s := by
  unfold State.emit
  dsimp only
  refine if_neg fun hwindow => ?_
  rw [Bool.and_eq_true, decide_eq_true_iff, decide_eq_true_iff] at hwindow
  obtain ⟨hfrom, hto⟩ := hwindow
  exact h (s.ppu.lineDot - (80 + s.ppu.transfer - 160)) (by omega) (by omega)

/-- Taking a sample moves neither the position nor the frame buffer. -/
theorem sampleGroup_keeps (s : State) :
    s.sampleGroup.ppu.ly = s.ppu.ly ∧ s.sampleGroup.ppu.lineDot = s.ppu.lineDot ∧
      s.sampleGroup.ppu.transfer = s.ppu.transfer ∧ s.sampleGroup.ppu.frame = s.ppu.frame := by
  obtain ⟨l, e⟩ := sampleGroup_eq s
  rw [e]
  exact ⟨rfl, rfl, rfl, rfl⟩

/-- A dot of the transfer stores pixel x's shade where it is its dot, as the state after the dot's sampling gives it, and leaves every other
byte of the frame buffer. -/
theorem emission {s : State} (hwf : Memory.wf Config.frameBlank s.ppu.frame) :
    (∀ x, x < 160 ∧ s.ppu.lineDot = 80 + s.ppu.transfer - 160 + x →
        Memory.get Config.frameBlank s.sampleGroup.emit.ppu.frame (160 * s.ppu.ly + x) = s.sampleGroup.pixelShade x) ∧
      ∀ k, (∀ x, x < 160 ∧ s.ppu.lineDot = 80 + s.ppu.transfer - 160 + x → k ≠ 160 * s.ppu.ly + x) →
        Memory.get Config.frameBlank s.sampleGroup.emit.ppu.frame k = Memory.get Config.frameBlank s.ppu.frame k := by
  obtain ⟨hly, hline, htransfer, hframe⟩ := sampleGroup_keeps s
  have hstored (x : Nat) (hx : x < 160) (hdot : s.ppu.lineDot = 80 + s.ppu.transfer - 160 + x) : s.sampleGroup.emit.ppu.frame =
      Memory.set Config.frameBlank s.ppu.frame (160 * s.ppu.ly + x) (s.sampleGroup.pixelShade x) := by
    rw [← hly, ← hframe]
    exact emit_now hx (hline.trans (htransfer ▸ hdot))
  refine ⟨fun x ⟨hx, hdot⟩ => ?_, fun k hk => ?_⟩
  · rw [hstored x hx hdot, Memory.get_set_self _ _ _ hwf]
  · by_cases hnow : ∃ x, x < 160 ∧ s.ppu.lineDot = 80 + s.ppu.transfer - 160 + x
    · obtain ⟨x, hx, hdot⟩ := hnow
      rw [hstored x hx hdot, Memory.get_set_other _ _ _ _ hwf (hk x ⟨hx, hdot⟩)]
    · rw [emit_other (by rw [hline, htransfer]; exact fun x hx hdot => hnow ⟨x, hx, hdot⟩), hframe]

/-- Up to dot 80 nothing is stored. -/
theorem lineEvents_frame {s : State} (h : s.ppu.lineDot ≤ 80) : s.lineEvents.ppu.frame = s.ppu.frame := by
  obtain hsearch | htransfer := Nat.lt_or_eq_of_le h
  · obtain ⟨cs, l, r, e⟩ := lineEvents_search hsearch
    rw [e]
  · by_cases hline : s.ppu.ly < 144
    · obtain ⟨r, e⟩ := startTransfer_eq s
      rw [lineEvents_transfer hline htransfer, e]
    · rw [lineEvents_vblank (Nat.not_lt.1 hline)]

theorem startTransfer_samples (s : State) : s.startTransfer.ppu.samples = [s.ppu.bgSample] := by
  obtain ⟨r, e⟩ := startTransfer_eq s
  rw [e]

/-- With one sample for each line no later one is taken, and it governs every pixel (60_exceptions.md R452). -/
theorem sampling_perLine {s : State} (h : s.params.bgSampling = .perLine) :
    s.sampleGroup = s ∧ ∀ r rest p, s.ppu.samples = r :: rest → s.sampleFor p = r := by
  refine ⟨if_neg (by simp [h]), fun r rest p hsamples => ?_⟩
  simp only [State.sampleFor, h, hsamples, List.getD_cons_zero]

/-- Popping begins in the 13th dot of the fetcher, when 8 pixels have been pushed, and then keeps pace with the pushes (60_exceptions.md
R449). -/
theorem pixelQueue_length (s : State) : s.pixelQueue.length ≤ 16 := by
  unfold State.pixelQueue
  split
  · exact Nat.zero_le 16
  · rw [List.length_map, List.length_range, pushedBy, poppedBy]
    omega

/-- Settles O51, each rule from its own lemma. -/
theorem pixelEmission : Obligations.PixelEmission := by
  unfold Obligations.PixelEmission
  intro s hwf _ shade now sample through background
  refine ⟨lineEvents_vblank, fun hline hdot => ?emission, lineEvents_frame, fun hline hdot => ?samples, sampling_perLine,
    bgIndex_rule s, fun x => ?shade, fun e x _ _ => spriteIndex_rule s e x, fun hmodel x => ?sprite, pixelQueue_length s⟩
  case emission =>
    rw [lineEvents_pixel hline hdot]
    exact emission hwf
  case samples =>
    rw [lineEvents_transfer hline hdot, startTransfer_samples]
    rfl
  case shade =>
    cases hp : s.spritePixel x with
    | none => exact (congrArg BitVec.toNat (pixelShade_background hp)).trans (bgShade_toNat s x)
    | some p =>
      obtain ⟨hleast, hmost⟩ := spritePixel_index s x hp
      refine ⟨hleast, hmost, ?_⟩
      rw [pixelShade_sprite hp, apply_ite BitVec.toNat, paletteShade_toNat, bgShade_toNat]
  case sprite =>
    have hpixel : s.spritePixel x = s.defaultSpritePixel x := by simp only [State.spritePixel, hmodel]
    rw [hpixel]
    exact ⟨defaultSpritePixel_disabled s x, defaultSpritePixel_transparent s x, fun henabled hordered w hw =>
      defaultSpritePixel_wins s x henabled hordered hw⟩

end Sys2Proof.Machine
